-- ==== Sys2Proof/Word.lean ====
section
/-! DEFINITION. The two word sizes of the core (00_scope.md rule R7: DATA_WIDTH 8, ADDR_WIDTH 16). -/

namespace Sys2Proof

/-- A register, flag byte, memory byte, port byte or opcode (R7, `DATA_WIDTH`). -/
abbrev Byte := BitVec 8

/-- PC, SP, a register pair or a memory address (R7, `ADDR_WIDTH`). -/
abbrev Word := BitVec 16

end Sys2Proof
end

