-- ==== Sys2Proof/Machine/Bytes.lean ====
section
/-! DEFINITION. Byte order: a 16-bit value and its two bytes (R8 `hi ++ lo`, R14, R39). -/

namespace Sys2Proof.Machine

/-- `hi ++ lo`, the value `hi * 256 + lo` (R8). -/
def joinBytes (hi lo : Byte) : Word := hi ++ lo

/-- `v[15:8]`. -/
def hiByte (v : Word) : Byte := v.extractLsb' 8 8

/-- `v[7:0]`. -/
def loByte (v : Word) : Byte := v.extractLsb' 0 8

end Sys2Proof.Machine
end

