-- ==== Sys2Proof/Config.lean ====
section
/-! DEFINITION. What the host fixes for the core (R7, R29) and the one thing the spec leaves entirely
to the host: what a port handler answers (R44, R46). -/

namespace Sys2Proof

/-- The rule for AC after a subtraction (R84, decision D3): a parameter the spec leaves open. -/
inductive AcSubRule where
  | halfBorrow
  | intelComplement
  deriving DecidableEq, Repr, Inhabited

/-- The configuration registers (R29) and the open ALU parameter (R34 `Config`).
The host writes them between Steps and no instruction does. -/
structure CoreConfig where
  /-- `MIRROR_OFFSET`; 0 means no mirroring (R37). -/
  mirrorOffset : Word
  /-- `RO_RANGE`: none, or the inclusive range `[RO_LO, RO_HI]` (R37, D15). -/
  roRange : Option (Word × Word)
  /-- `SAFE_MODE` (R169). -/
  safeMode : Bool
  /-- `AC_SUB_RULE` (R84). -/
  acSubRule : AcSubRule
  deriving DecidableEq, Repr, Inhabited

/-- What one call of a populated port handler does to the core (R46): the byte an input handler
returns, and the entries of `portBytes` the handler rewrites, in order. -/
structure HandlerReply where
  value : Byte
  portWrites : List (Byte × Byte)
  deriving DecidableEq, Repr, Inhabited

namespace Config

/-- FREE VALUE (R44: "the host's answer ... a draw: any byte"; log 2). The reply of the `n`-th handler
call for which the host has settled no reply beforehand. It has no value that Lean can see. -/
opaque hostReply : Nat → HandlerReply

/-- `MEM_SIZE` (R7). -/
def memSize : Nat := 65536

/-- `PORT_COUNT` (R7). -/
def portCount : Nat := 256

end Config

end Sys2Proof
end

