-- ==== Sys2Proof/Machine/Memory.lean ====
section
/-! DEFINITION. A byte store (R26, R28) as a list of (address, byte) cells in one canonical form: the
addresses strictly rise and no cell holds 0x00, which is what an unlisted address reads as (R33). -/

namespace Sys2Proof.Machine

/-- The cells of a byte store that do not hold the reset value 0x00. -/
abbrev Memory := List Host.Cell

/-- What an address that is not listed reads as: the reset contents of `mem` and `portBytes` (R33). -/
def Memory.unlisted : Byte := 0x00

/-- The byte at address `k`. -/
def Memory.read : Memory → Nat → Byte
  | [], _ => Memory.unlisted
  | (k', v) :: rest, k => if k' = k then v else Memory.read rest k

/-- The cells at other addresses than `k`. -/
def Memory.erase : Memory → Nat → Memory
  | [], _ => []
  | (k', v) :: rest, k =>
    if k' = k then Memory.erase rest k else (k', v) :: Memory.erase rest k

/-- Put a cell before the first cell with a higher address. -/
def Memory.insert : Memory → Nat → Byte → Memory
  | [], k, v => [(k, v)]
  | (k', v') :: rest, k, v =>
    if k < k' then (k, v) :: (k', v') :: rest else (k', v') :: Memory.insert rest k v

/-- Store a byte; storing what an unlisted address reads as leaves no cell. -/
def Memory.write (m : Memory) (k : Nat) (v : Byte) : Memory :=
  if v = Memory.unlisted then m.erase k else (m.erase k).insert k v

/-- The canonical form of a store whose addresses are at least `lo` and below `hi`. -/
def Memory.canonical (hi : Nat) : Nat → Memory → Bool
  | _, [] => true
  | lo, (k, v) :: rest =>
    decide (lo ≤ k) && decide (k < hi) && decide (v ≠ Memory.unlisted)
      && Memory.canonical hi (k + 1) rest

/-- The memory array is in canonical form (R26: 65536 bytes). -/
def Memory.wf (m : Memory) : Bool := m.canonical Config.memSize 0

/-- The port byte array is in canonical form (R28: 256 entries). -/
def Memory.wfPorts (m : Memory) : Bool := m.canonical Config.portCount 0

end Sys2Proof.Machine
end

