-- ==== Sys2Proof/Syntax.lean ====
section
/-! DEFINITION. The instructions: one constructor for each mnemonic of spec/opcode_table.json.
The operand types hold exactly the values the table's field constraints allow. -/

namespace Sys2Proof

/-- The 8-bit registers of the codes DDD and SSS other than 110 = M (R56). -/
inductive Reg where
  | b | c | d | e | h | l | a
  deriving DecidableEq, Repr

/-- The pairs of PUSH and POP (R57, codes 00, 01 and 10). -/
inductive Pair where
  | bc | de | hl
  deriving DecidableEq, Repr

/-- The pairs of LXI, INX, DCX and DAD (R57, code 11 is SP). -/
inductive SpPair where
  | bc | de | hl | sp
  deriving DecidableEq, Repr

/-- The pairs of LDAX and STAX (R57: only 00 and 01). -/
inductive IndexPair where
  | bc | de
  deriving DecidableEq, Repr

/-- The conditions CCC of Jcc, Ccc and Rcc (R59). -/
inductive Cond where
  | nz | z | nc | c | po | pe | p | m
  deriving DecidableEq, Repr

inductive Instr where
  -- data transfer (R88 to R100)
  | movRR (dst src : Reg)
  | movRM (dst : Reg)
  | movMR (src : Reg)
  | mviR (dst : Reg) (v : Byte)
  | mviM (v : Byte)
  | lxi (p : SpPair) (v : Word)
  | lda (a : Word)
  | sta (a : Word)
  | lhld (a : Word)
  | shld (a : Word)
  | ldax (p : IndexPair)
  | stax (p : IndexPair)
  | xchg
  -- the register and memory ALU group (R101, R103, R105, R107, R115, R117, R119, R121)
  | addR (src : Reg)
  | addM
  | adcR (src : Reg)
  | adcM
  | subR (src : Reg)
  | subM
  | sbbR (src : Reg)
  | sbbM
  | anaR (src : Reg)
  | anaM
  | xraR (src : Reg)
  | xraM
  | oraR (src : Reg)
  | oraM
  | cmpR (src : Reg)
  | cmpM
  -- the immediate ALU group (R102, R104, R106, R108, R116, R118, R120, R122)
  | adi (v : Byte)
  | aci (v : Byte)
  | sui (v : Byte)
  | sbi (v : Byte)
  | ani (v : Byte)
  | xri (v : Byte)
  | ori (v : Byte)
  | cpi (v : Byte)
  -- increments, decrements, pair arithmetic, decimal adjust (R109 to R114)
  | inrR (dst : Reg)
  | inrM
  | dcrR (dst : Reg)
  | dcrM
  | inx (p : SpPair)
  | dcx (p : SpPair)
  | dad (p : SpPair)
  | daa
  -- rotates, complement, carry (R123 to R129)
  | rlc
  | rrc
  | ral
  | rar
  | cma
  | stc
  | cmc
  -- branches, calls, returns, restart (R131 to R138)
  | jmp (a : Word)
  | jcc (cc : Cond) (a : Word)
  | call (a : Word)
  | ccc (cc : Cond) (a : Word)
  | ret
  | rcc (cc : Cond)
  | rst (n : BitVec 3)
  | pchl
  -- stack, I/O, machine control (R139 to R150)
  | pushRp (p : Pair)
  | pushPsw
  | popRp (p : Pair)
  | popPsw
  | xthl
  | sphl
  | inp (port : Byte)
  | outp (port : Byte)
  | ei
  | di
  | hlt
  | nop
  /-- One of the twelve illegal opcode bytes (R65); `op` is the byte fetched. -/
  | illegal (op : Byte)
  deriving DecidableEq, Repr

end Sys2Proof
end

