-- ==== Sys2Proof/Machine/State.lean ====
section
/-! DEFINITION. The state of the machine (R34 and what a Step takes and gives beside it), the faults and
refusals, and the state after reset. -/

namespace Sys2Proof.Machine

/-- The condition codes (R18). -/
structure Flags where
  z : Bool
  s : Bool
  p : Bool
  cy : Bool
  ac : Bool
  deriving DecidableEq, Repr

/-- A saved state of safe mode (R31), with the pairs and the packed flag byte as the source lists them. -/
structure Snapshot where
  cycles : Nat
  inte : Bool
  hold : Bool
  wait : Bool
  portBytes : Memory
  a : Byte
  bc : Word
  de : Word
  hl : Word
  sp : Word
  pc : Word
  flagByte : Byte
  mem : Memory
  deriving DecidableEq, Repr

/-- What went wrong in a Step or an interrupt entry, with the recorded value (R151, codes 1 to 5). -/
inductive FaultCause where
  | invalidInstruction (pc0 : Word) (op : Byte)
  | readOnlyWrite (addr : Word)
  | mirrorOutOfRange (addr : Word)
  | unimplementedInPort (port : Byte)
  | unimplementedOutPort (port : Byte)
  deriving DecidableEq, Repr

/-- What the core does to the host: the calls it makes and the reports it writes (log 8). -/
inductive HostEvent where
  /-- An input handler was called and answered `v` (R44). -/
  | inCall (port v : Byte)
  /-- An output handler was called with `v` (R45). -/
  | outCall (port v : Byte)
  /-- The diagnostic print hook `DiagPrint(C, DE, mem)` was called (R170). -/
  | diagPrint (c : Byte) (de : Word) (mem : Memory)
  /-- Safe mode reported a fault (R169 `report F(info)`). -/
  | faultReport (cause : FaultCause)
  /-- Safe mode reported the instruction it is about to retry (R169 `report(S.PC, ...)`). -/
  | retryReport (pc : Word) (i : Instr)
  deriving DecidableEq, Repr

structure State where
  -- registers (R13, R16, R17) and condition codes (R18)
  a : Byte
  b : Byte
  c : Byte
  d : Byte
  e : Byte
  h : Byte
  l : Byte
  sp : Word
  pc : Word
  flags : Flags
  -- pins (R22)
  inte : Bool
  hold : Bool
  wait : Bool
  -- execution state and counters (R23 to R25)
  halted : Bool
  cycles : Nat
  iterations : Nat
  -- memory and ports (R26 to R28): a listed port has a handler
  mem : Memory
  portBytes : Memory
  inHandlers : List Byte
  outHandlers : List Byte
  -- configuration (R29, R34)
  cfg : CoreConfig
  -- safe mode (R32), the newest snapshot first
  pendingFault : Bool
  snapStack : List Snapshot
  -- the argument of the next Step and the result of the last one (R72, R79; log 6, log 7)
  diagMode : Bool
  returned : BitVec 16
  -- the host's side (R44 to R46, R169, R170; log 2, log 3, log 8), `hostLog` newest first
  replies : List HandlerReply
  draws : Nat
  hostLog : List HostEvent
  deriving DecidableEq, Repr

/-- Why the machine stops with a fault (R151). `left` is the state the fault leaves (R154, log 1). With
SAFE_MODE = 1 `step` turns a fault raised inside a Step into a next state (R169). -/
inductive Fault where
  /-- Raised by an illegal opcode (R65, R152). Safe: the spec names this fault. -/
  | invalidInstruction (pc0 : Word) (op : Byte) (left : State)
  /-- Raised by a memory write into RO_RANGE (R37). Safe: the spec names this fault. -/
  | readOnlyWrite (addr : Word) (left : State)
  /-- Raised by a memory write whose mirror address is above 0xFFFF (R37, D14). Safe: the spec names
  this fault. -/
  | mirrorOutOfRange (addr : Word) (left : State)
  /-- Raised by IN from a port with no handler (R44). Safe: the spec names this fault. -/
  | unimplementedInPort (port : Byte) (left : State)
  /-- Raised by OUT to a port with no handler (R45). Safe: the spec names this fault. -/
  | unimplementedOutPort (port : Byte) (left : State)
  deriving DecidableEq, Repr

/-- Why the model turns a request away without a next state. -/
inductive Refusal where
  /-- An instruction without a meaning; raised only by an arm of `exec`. Safe: the run stops. -/
  | notModelled (mnemonic : String)
  /-- Raised by the host call GenerateInterrupt(n) with n outside 0..7: configuration error 16
  (R164). Safe: the spec rejects the call. -/
  | rstOutOfRange (n : Int)
  /-- Raised by the host calls SetPin and GetPin on an unknown name: configuration error 17 (R163).
  Safe: the spec rejects the call. -/
  | invalidPinName (name : String)
  /-- Raised by the host call that loads an image running past 0xFFFF (log 15). Safe: the spec states
  no effect, and nothing is loaded. -/
  | imageOutOfRange (offset : Word) (size : Nat)
  /-- Raised by `step` in safe mode when a fault is pending and there is no snapshot to restore
  (log 10). Safe: no run from reset gets there. -/
  | snapshotMissing
  deriving DecidableEq, Repr

/-- The machine right after reset (R33, R174); the last five fields are the model's own (log 4). -/
def State.reset : State where
  a := 0x00
  b := 0x00
  c := 0x00
  d := 0x00
  e := 0x00
  h := 0x00
  l := 0x00
  sp := 0x0000
  pc := 0x0000
  flags := { z := false, s := false, p := false, cy := false, ac := false }
  inte := false
  hold := false
  wait := false
  halted := false
  cycles := 0
  iterations := 0
  mem := []
  portBytes := []
  inHandlers := []
  outHandlers := []
  cfg := { mirrorOffset := 0x0000, roRange := none, safeMode := false, acSubRule := .halfBorrow }
  pendingFault := false
  snapStack := []
  diagMode := false
  returned := 0x0000
  replies := []
  draws := 0
  hostLog := []

end Sys2Proof.Machine
end

