-- ==== Sys2Proof/Machine/Flags.lean ====
section
/-! DEFINITION. The packed flag byte (R19, R20) and the ALU (41_alu.md R82 to R86), computed on exact
integers and narrowed at the end. -/

namespace Sys2Proof.Machine

/-! ### The packed flag byte -/

/-- A flag at its bit of the packed byte. -/
def flagBit (f : Bool) (bit : Nat) : Byte := if f then 1#8 <<< bit else 0#8

/-- `pack()` (R19): S Z 0 AC 0 P 1 CY from bit 7 to bit 0. -/
def Flags.pack (f : Flags) : Byte :=
  flagBit f.s 7 ||| flagBit f.z 6 ||| flagBit f.ac 4 ||| flagBit f.p 2 ||| 0x02 ||| flagBit f.cy 0

/-- `unpack(b)` (R20); bits 1, 3 and 5 are ignored. -/
def Flags.unpack (b : Byte) : Flags where
  cy := b.getLsbD 0
  p := b.getLsbD 2
  ac := b.getLsbD 4
  z := b.getLsbD 6
  s := b.getLsbD 7

/-! ### Result flags -/

/-- The number of 1 bits of a byte. -/
def popCount (v : Byte) : Nat := ((List.range 8).filter fun i => v.getLsbD i).length

/-- `parity(v)` (R82): the number of 1 bits is even. -/
def parityEven (v : Byte) : Bool := popCount v % 2 == 0

/-- `flagsZSP(v)` (R82). -/
def Flags.setZSP (f : Flags) (v : Byte) : Flags :=
  { f with z := v == 0, s := v.getLsbD 7, p := parityEven v }

/-! ### The adder and the subtractor -/

/-- What `AluAdd` and `AluSub` return. -/
structure AluResult where
  r : Byte
  cy : Bool
  ac : Bool
  deriving DecidableEq, Repr

/-- `AluAdd(a, b, cin)` (R83). -/
def aluAdd (a b : Byte) (cin : Bool) : AluResult :=
  let t := a.toNat + b.toNat + cin.toNat
  { r := BitVec.ofNat 8 t
    cy := decide (t > 0xFF)
    ac := decide (a.toNat % 16 + b.toNat % 16 + cin.toNat > 0xF) }

/-- `AluSub(a, b, bin)` (R84), AC by the configured rule. -/
def aluSub (rule : AcSubRule) (a b : Byte) (bin : Bool) : AluResult :=
  let t : Int := (a.toNat : Int) - b.toNat - bin.toNat
  { r := BitVec.ofInt 8 t
    cy := decide (t < 0)
    ac := match rule with
      | .halfBorrow => decide (a.toNat % 16 < b.toNat % 16 + bin.toNat)
      | .intelComplement =>
        decide (a.toNat % 16 + (~~~b).toNat % 16 + (1 - bin.toNat) > 0xF) }

/-- `setAll(r, cy, ac)` (43_arithmetic.md). -/
def Flags.setAll (f : Flags) (o : AluResult) : Flags := { f.setZSP o.r with cy := o.cy, ac := o.ac }

/-- The flags INR and DCR write: all but CY (R109, R110). -/
def Flags.setAllButCy (f : Flags) (o : AluResult) : Flags := { f.setZSP o.r with ac := o.ac }

/-- The flags of AND, XOR and OR (R85): CY and AC cleared. -/
def Flags.setLogic (f : Flags) (r : Byte) : Flags := { f.setZSP r with cy := false, ac := false }

/-! ### 16-bit operations (R86): two 8-bit calls, the auxiliary carries discarded -/

def add16 (x y : Word) : Word × Bool :=
  let lo := aluAdd (loByte x) (loByte y) false
  let hi := aluAdd (hiByte x) (hiByte y) lo.cy
  (joinBytes hi.r lo.r, hi.cy)

/-- The AC rule passed to the two subtractions is immaterial: their auxiliary carries are discarded. -/
def sub16 (x y : Word) : Word × Bool :=
  let lo := aluSub .halfBorrow (loByte x) (loByte y) false
  let hi := aluSub .halfBorrow (hiByte x) (hiByte y) lo.cy
  (joinBytes hi.r lo.r, hi.cy)

/-! ### Decimal adjust (R114) -/

/-- Step 1: correct the low nibble; AC is the carry out of bit 3 of the correction (D4). -/
def daaStep1 (a : Byte) (ac : Bool) : Byte × Bool :=
  if a.toNat % 16 > 9 ∨ ac = true then (a + 0x06, decide (a.toNat % 16 + 6 > 0xF)) else (a, false)

/-- Step 2: correct the high nibble of `a1`; `a0` is A before step 1 (D5). It never clears CY. -/
def daaStep2 (a0 a1 : Byte) (cy : Bool) : Byte × Bool :=
  if a1.toNat / 16 > 9 ∨ a0.toNat / 16 > 9 ∨ cy = true then (a1 + 0x60, true) else (a1, cy)

/-- The adjusted accumulator with its CY and AC. -/
def daaAdjust (a : Byte) (cy ac : Bool) : AluResult :=
  let low := daaStep1 a ac
  let high := daaStep2 a low.1 cy
  { r := high.1, cy := high.2, ac := low.2 }

end Sys2Proof.Machine
end

