-- ==== Sys2Proof/Machine/Operands.lean ====
section
/-! DEFINITION. Reading and writing registers, pairs and the conditions (R9, R13, R14, R56, R57, R59). -/

namespace Sys2Proof.Machine

/-- `r[i]` for a register code other than M. -/
def State.reg (s : State) : Reg → Byte
  | .b => s.b
  | .c => s.c
  | .d => s.d
  | .e => s.e
  | .h => s.h
  | .l => s.l
  | .a => s.a

/-- `r[i] <- v` for a register code other than M; the other half of the pair is kept (R14). -/
def State.setReg (s : State) (r : Reg) (v : Byte) : State :=
  match r with
  | .b => { s with b := v }
  | .c => { s with c := v }
  | .d => { s with d := v }
  | .e => { s with e := v }
  | .h => { s with h := v }
  | .l => { s with l := v }
  | .a => { s with a := v }

def State.bc (s : State) : Word := joinBytes s.b s.c

def State.de (s : State) : Word := joinBytes s.d s.e

def State.hl (s : State) : Word := joinBytes s.h s.l

def State.setBc (s : State) (v : Word) : State := { s with b := hiByte v, c := loByte v }

def State.setDe (s : State) (v : Word) : State := { s with d := hiByte v, e := loByte v }

def State.setHl (s : State) (v : Word) : State := { s with h := hiByte v, l := loByte v }

/-- `rp[i]` of PUSH and POP. -/
def State.pair (s : State) : Pair → Word
  | .bc => s.bc
  | .de => s.de
  | .hl => s.hl

def State.setPair (s : State) (p : Pair) (v : Word) : State :=
  match p with
  | .bc => s.setBc v
  | .de => s.setDe v
  | .hl => s.setHl v

/-- `rp[i]` of LXI, INX, DCX and DAD. -/
def State.spPair (s : State) : SpPair → Word
  | .bc => s.bc
  | .de => s.de
  | .hl => s.hl
  | .sp => s.sp

def State.setSpPair (s : State) (p : SpPair) (v : Word) : State :=
  match p with
  | .bc => s.setBc v
  | .de => s.setDe v
  | .hl => s.setHl v
  | .sp => { s with sp := v }

/-- `rp[i]` of LDAX and STAX. -/
def State.indexPair (s : State) : IndexPair → Word
  | .bc => s.bc
  | .de => s.de

/-- `cond(CCC)` (R59). -/
def Flags.holds (f : Flags) : Cond → Bool
  | .nz => !f.z
  | .z => f.z
  | .nc => !f.cy
  | .c => f.cy
  | .po => !f.p
  | .pe => f.p
  | .p => !f.s
  | .m => f.s

end Sys2Proof.Machine
end

