-- ==== Sys2Proof/Machine/Ops.lean ====
section
/-! DEFINITION. The named operations the meanings are written over: raising a fault, memory and stack
access, the ports, the shape of one instruction, interrupt entry and return, safe mode. -/

namespace Sys2Proof.Machine

/-- The outcome of an operation that gives an `α`. -/
abbrev ResultOf (α : Type) := Host.Outcome α Fault Refusal

/-- The outcome of an operation that gives the next state. -/
abbrev Result := ResultOf State

/-- Go on after a next state; a fault or a refusal ends the whole. -/
def andThen {α β : Type} (r : ResultOf α) (f : α → ResultOf β) : ResultOf β :=
  match r with
  | .next x => f x
  | .fault e => .fault e
  | .refused e => .refused e

/-! ### Faults (R151, R153, R154) -/

/-- The numeric code of a fault (R151). -/
def FaultCause.code : FaultCause → Nat
  | .invalidInstruction _ _ => 1
  | .readOnlyWrite _ => 2
  | .mirrorOutOfRange _ => 3
  | .unimplementedInPort _ => 4
  | .unimplementedOutPort _ => 5

/-- `raise F(info)`: TAKING A FAULT. It stops the instruction (or the interrupt entry) at this point
(R153); the state it leaves is the state now, with every earlier effect and no later one (R154). -/
def raise {α : Type} (cause : FaultCause) (left : State) : ResultOf α :=
  match cause with
  | .invalidInstruction pc0 op => .fault (.invalidInstruction pc0 op left)
  | .readOnlyWrite addr => .fault (.readOnlyWrite addr left)
  | .mirrorOutOfRange addr => .fault (.mirrorOutOfRange addr left)
  | .unimplementedInPort port => .fault (.unimplementedInPort port left)
  | .unimplementedOutPort port => .fault (.unimplementedOutPort port left)

def Fault.cause : Fault → FaultCause
  | .invalidInstruction pc0 op _ => .invalidInstruction pc0 op
  | .readOnlyWrite addr _ => .readOnlyWrite addr
  | .mirrorOutOfRange addr _ => .mirrorOutOfRange addr
  | .unimplementedInPort port _ => .unimplementedInPort port
  | .unimplementedOutPort port _ => .unimplementedOutPort port

/-- The state a fault leaves (R154). -/
def Fault.left : Fault → State
  | .invalidInstruction _ _ s => s
  | .readOnlyWrite _ s => s
  | .mirrorOutOfRange _ s => s
  | .unimplementedInPort _ s => s
  | .unimplementedOutPort _ s => s

/-! ### Memory (R36, R37, R40) -/

/-- `MemRead(a, 1)` (R36). -/
def memRead (s : State) (a : Word) : Byte := s.mem.read a.toNat

/-- `MemRead(a, 2)` (R40). -/
def memRead16 (s : State) (a : Word) : Word := joinBytes (memRead s (a + 1)) (memRead s a)

/-- The address lies in RO_RANGE (R37, D15: both bounds included). -/
def readOnly (cfg : CoreConfig) (a : Word) : Bool :=
  match cfg.roRange with
  | none => false
  | some (lo, hi) => decide (lo.toNat ≤ a.toNat ∧ a.toNat ≤ hi.toNat)

/-- The addresses one byte write stores to: the primary one and, with mirroring, the mirror (R37). -/
def writeTargets (cfg : CoreConfig) (a : Word) : List Word :=
  if cfg.mirrorOffset = 0 then [a] else [a, a + cfg.mirrorOffset]

/-- The check before a byte write (R37, R156): the mirror bound first, then the read-only range for
the primary address and for the mirror address. -/
def writeFault (cfg : CoreConfig) (a : Word) : Option FaultCause :=
  if cfg.mirrorOffset ≠ 0 ∧ a.toNat + cfg.mirrorOffset.toNat > 0xFFFF then
    some (.mirrorOutOfRange a)
  else ((writeTargets cfg a).find? (readOnly cfg)).map .readOnlyWrite

/-- Store a byte at each of the addresses. -/
def storeAll (v : Byte) : List Word → Memory → Memory
  | [], m => m
  | t :: ts, m => storeAll v ts (m.write t.toNat v)

/-- `MemWrite(a, 1, v)` (R37). -/
def memWrite (a : Word) (v : Byte) (s : State) : Result :=
  match writeFault s.cfg a with
  | some cause => raise cause s
  | none => .next { s with mem := storeAll v (writeTargets s.cfg a) s.mem }

/-- `MemWrite(a, 2, v)` (R40): the low byte first. -/
def memWrite16 (a : Word) (v : Word) (s : State) : Result :=
  andThen (memWrite a (loByte v) s) (memWrite (a + 1) (hiByte v))

/-- The byte at HL, the operand `M` (R56). -/
def State.m (s : State) : Byte := memRead s s.hl

/-! ### The stack (R42, R43) -/

/-- `Push16(v)` (R42): the high byte first, SP after both writes. -/
def push16 (v : Word) (s : State) : Result :=
  andThen (memWrite (s.sp - 1) (hiByte v) s) fun t =>
    andThen (memWrite (s.sp - 2) (loByte v) t) fun u =>
      .next { u with sp := s.sp - 2 }

/-- The value `Pop16()` returns (R43). -/
def popValue (s : State) : Word := joinBytes (memRead s (s.sp + 1)) (memRead s s.sp)

/-- What `Pop16()` does to SP (R43). -/
def popped (s : State) : State := { s with sp := s.sp + 2 }

/-! ### The ports (R44 to R46) -/

/-- The reply of the next handler call: the one the host has settled, else a free value (log 2, 3). -/
def nextReply (s : State) : HandlerReply :=
  match s.replies with
  | [] => Config.hostReply s.draws
  | r :: _ => r

/-- One reply has been used. -/
def useReply (s : State) : State :=
  match s.replies with
  | [] => { s with draws := s.draws + 1 }
  | _ :: rest => { s with replies := rest }

/-- The handler's writes to `portBytes` (R46). -/
def writePorts : List (Byte × Byte) → Memory → Memory
  | [], m => m
  | (p, v) :: rest, m => writePorts rest (m.write p.toNat v)

/-- One call of a populated handler: all it changes is `portBytes` and the host's own side (R46). -/
def callHandler (event : HostEvent) (s : State) : State :=
  { useReply s with
    portBytes := writePorts (nextReply s).portWrites s.portBytes
    hostLog := event :: s.hostLog }

/-- `PortIn(p)` (R44): the byte read and the state after the handler ran. -/
def portIn (p : Byte) (s : State) : ResultOf (Byte × State) :=
  if s.inHandlers.contains p then
    .next ((nextReply s).value, callHandler (.inCall p (nextReply s).value) s)
  else raise (.unimplementedInPort p) s

/-- `PortOut(p, v)` (R45). -/
def portOut (p v : Byte) (s : State) : Result :=
  if s.outHandlers.contains p then .next (callHandler (.outCall p v) s)
  else raise (.unimplementedOutPort p) s

/-! ### The shape of one instruction (R73, R76 to R79) -/

/-- `halted <- 0`, which a Step does before it executes a legal instruction (R73). -/
def start (s : State) : State := { s with halted := false }

/-- The end of a Step whose rule did not write PC: `PC <- pc0 + len`, the cycles, the result `len`
(R77 to R79). -/
def advance (len cost : Nat) (s : State) : State :=
  { s with
    pc := s.pc + BitVec.ofNat 16 len
    cycles := s.cycles + cost
    returned := BitVec.ofNat 16 len }

/-- `pc <- target` and the end of that Step: PC is not advanced (R76 to R79). -/
def jump (len cost : Nat) (target : Word) (s : State) : State :=
  { s with
    pc := target
    cycles := s.cycles + cost
    returned := BitVec.ofNat 16 len }

/-- `HALT_SENTINEL`, -1 as a signed 16-bit result (R7, R79, D7). -/
def haltSentinel : BitVec 16 := BitVec.ofInt 16 (-1)

/-- The end of a Step that halts: PC stays at pc0 (R77, R149, R171). -/
def halt (cost : Nat) (s : State) : State :=
  { s with halted := true, cycles := s.cycles + cost, returned := haltSentinel }

/-- An instruction that only computes a new state. -/
def plain (len cost : Nat) (body : State → State) (s : State) : Result :=
  .next (advance len cost (body (start s)))

/-- An instruction whose body may raise a fault. -/
def faulting (len cost : Nat) (body : State → Result) (s : State) : Result :=
  andThen (body (start s)) fun t => .next (advance len cost t)

/-- A call: push the address of the next instruction, then jump (R130). -/
def callTo (len cost : Nat) (target : Word) (s : State) : Result :=
  andThen (push16 (s.pc + BitVec.ofNat 16 len) (start s)) fun t => .next (jump len cost target t)

/-- A return: pop PC (R130). It is also the return from an interrupt (R160). -/
def returnFrom (cost : Nat) (s : State) : Result :=
  .next (jump 1 cost (popValue s) (popped (start s)))

/-! ### Interrupt entry (R159) -/

/-- `8 * n` (R61 `rst_target`, R159). -/
def vector (n : BitVec 3) : Word := n.zeroExtend 16 <<< 3

/-- `INTERRUPT_CYCLES` (R7, D11). -/
def interruptCycles : Nat := 0

/-- TAKING AN INTERRUPT: GenerateInterrupt(n) for n in 0..7. PC is saved on the stack and nothing else
is; INTE and `halted` are cleared. -/
def interruptEntry (n : BitVec 3) (s : State) : Result :=
  andThen (push16 s.pc s) fun t =>
    .next
      { t with
        pc := vector n
        inte := false
        halted := false
        cycles := t.cycles + interruptCycles }

/-! ### Safe mode (R31, R169) -/

/-- `snapshot()` (R31). -/
def State.snapshot (s : State) : Snapshot where
  cycles := s.cycles
  inte := s.inte
  hold := s.hold
  wait := s.wait
  portBytes := s.portBytes
  a := s.a
  bc := s.bc
  de := s.de
  hl := s.hl
  sp := s.sp
  pc := s.pc
  flagByte := s.flags.pack
  mem := s.mem

/-- `restore(S)` (R31): everything a snapshot holds, and nothing else, is written back. -/
def State.restore (s : State) (x : Snapshot) : State :=
  { s with
    cycles := x.cycles
    inte := x.inte
    hold := x.hold
    wait := x.wait
    portBytes := x.portBytes
    a := x.a
    b := hiByte x.bc
    c := loByte x.bc
    d := hiByte x.de
    e := loByte x.de
    h := hiByte x.hl
    l := loByte x.hl
    sp := x.sp
    pc := x.pc
    flags := Flags.unpack x.flagByte
    mem := x.mem }

/-- `push(snapStack, snapshot())`. -/
def pushSnapshot (s : State) : State := { s with snapStack := s.snapshot :: s.snapStack }

/-- After a fault in a safe-mode Step that began at `pc0`: `pendingFault <- 1`, `PC <- pc0 + 1`, the
report, the result 1 (R169). -/
def markFault (pc0 : Word) (f : Fault) : State :=
  { f.left with
    pendingFault := true
    pc := pc0 + 1
    returned := 1
    hostLog := .faultReport f.cause :: f.left.hostLog }

end Sys2Proof.Machine
end

