-- ==== Sys2Proof/Machine/Arithmetic.lean ====
section
/-! DEFINITION. The arithmetic instructions (43_arithmetic.md). -/

namespace Sys2Proof.Machine

/-- `A <- A + v + cin` with all five flags (R101 to R104). -/
def addToA (v : Byte) (cin : Bool) (s : State) : State :=
  let o := aluAdd s.a v cin
  { s with a := o.r, flags := s.flags.setAll o }

/-- `A <- A - v - bin` with all five flags; CY is the borrow (R105 to R108). -/
def subFromA (v : Byte) (bin : Bool) (s : State) : State :=
  let o := aluSub s.cfg.acSubRule s.a v bin
  { s with a := o.r, flags := s.flags.setAll o }

/-- The new value and flags of an increment (R109). -/
def incremented (v : Byte) (s : State) : AluResult × Flags :=
  let o := aluAdd v 1 false
  (o, s.flags.setAllButCy o)

/-- The new value and flags of a decrement (R110). -/
def decremented (v : Byte) (s : State) : AluResult × Flags :=
  let o := aluSub s.cfg.acSubRule v 1 false
  (o, s.flags.setAllButCy o)

/-- ADD r (R101). -/
def execAddR (src : Reg) (s : State) : Result :=
  plain 1 4 (fun u => addToA (u.reg src) false u) s

/-- ADD M (R101). -/
def execAddM (s : State) : Result :=
  plain 1 7 (fun u => addToA u.m false u) s

/-- ADI d8 (R102). -/
def execAdi (v : Byte) (s : State) : Result :=
  plain 2 7 (fun u => addToA v false u) s

/-- ADC r (R103). -/
def execAdcR (src : Reg) (s : State) : Result :=
  plain 1 4 (fun u => addToA (u.reg src) u.flags.cy u) s

/-- ADC M (R103). -/
def execAdcM (s : State) : Result :=
  plain 1 7 (fun u => addToA u.m u.flags.cy u) s

/-- ACI d8 (R104). -/
def execAci (v : Byte) (s : State) : Result :=
  plain 2 7 (fun u => addToA v u.flags.cy u) s

/-- SUB r (R105). -/
def execSubR (src : Reg) (s : State) : Result :=
  plain 1 4 (fun u => subFromA (u.reg src) false u) s

/-- SUB M (R105). -/
def execSubM (s : State) : Result :=
  plain 1 7 (fun u => subFromA u.m false u) s

/-- SUI d8 (R106). -/
def execSui (v : Byte) (s : State) : Result :=
  plain 2 7 (fun u => subFromA v false u) s

/-- SBB r (R107). -/
def execSbbR (src : Reg) (s : State) : Result :=
  plain 1 4 (fun u => subFromA (u.reg src) u.flags.cy u) s

/-- SBB M (R107). -/
def execSbbM (s : State) : Result :=
  plain 1 7 (fun u => subFromA u.m u.flags.cy u) s

/-- SBI d8 (R108). -/
def execSbi (v : Byte) (s : State) : Result :=
  plain 2 7 (fun u => subFromA v u.flags.cy u) s

/-- INR r (R109). -/
def execInrR (dst : Reg) (s : State) : Result :=
  plain 1 5
    (fun u =>
      let o := incremented (u.reg dst) u
      { u.setReg dst o.1.r with flags := o.2 }) s

/-- INR M (R109): the flags are written after the memory write. -/
def execInrM (s : State) : Result :=
  faulting 1 10
    (fun u =>
      let o := incremented u.m u
      andThen (memWrite u.hl o.1.r u) fun t => .next { t with flags := o.2 }) s

/-- DCR r (R110). -/
def execDcrR (dst : Reg) (s : State) : Result :=
  plain 1 5
    (fun u =>
      let o := decremented (u.reg dst) u
      { u.setReg dst o.1.r with flags := o.2 }) s

/-- DCR M (R110): the flags are written after the memory write. -/
def execDcrM (s : State) : Result :=
  faulting 1 10
    (fun u =>
      let o := decremented u.m u
      andThen (memWrite u.hl o.1.r u) fun t => .next { t with flags := o.2 }) s

/-- INX rp (R111). -/
def execInx (p : SpPair) (s : State) : Result :=
  plain 1 5 (fun u => u.setSpPair p (add16 (u.spPair p) 1).1) s

/-- DCX rp (R112). -/
def execDcx (p : SpPair) (s : State) : Result :=
  plain 1 5 (fun u => u.setSpPair p (sub16 (u.spPair p) 1).1) s

/-- DAD rp (R113): CY only. -/
def execDad (p : SpPair) (s : State) : Result :=
  plain 1 10
    (fun u =>
      let sum := add16 u.hl (u.spPair p)
      { u.setHl sum.1 with flags := { u.flags with cy := sum.2 } }) s

/-- DAA (R114). -/
def execDaa (s : State) : Result :=
  plain 1 4
    (fun u =>
      let o := daaAdjust u.a u.flags.cy u.flags.ac
      { u with a := o.r, flags := u.flags.setAll o }) s

end Sys2Proof.Machine
end

