-- ==== Sys2Proof/Machine/Branch.lean ====
section
/-! DEFINITION. The branch, call, return and restart instructions (45_branch.md). No flag is written. -/

namespace Sys2Proof.Machine

/-- JMP a16 (R131). -/
def execJmp (a : Word) (s : State) : Result := .next (jump 3 10 a (start s))

/-- Jcc a16 (R132): 10 cycles, taken or not. -/
def execJcc (cc : Cond) (a : Word) (s : State) : Result :=
  if s.flags.holds cc then .next (jump 3 10 a (start s)) else plain 3 10 id s

/-- PCHL (R133). -/
def execPchl (s : State) : Result := .next (jump 1 5 s.hl (start s))

/-- The call of `DiagPrint(C, DE, mem)`: it writes text to the host and changes no core state (R170). -/
def diagPrint (s : State) : State := { s with hostLog := .diagPrint s.c s.de s.mem :: s.hostLog }

/-- CALL a16 (R134); with cpuDiagMode = 1 a call of 5 or 0 is intercepted (R170, R171). -/
def execCall (a : Word) (s : State) : Result :=
  if s.diagMode = true ∧ a = 0x0005 then plain 3 17 diagPrint s
  else if s.diagMode = true ∧ a = 0x0000 then .next (halt 17 s)
  else callTo 3 17 a s

/-- Ccc a16 (R135): 17 cycles taken, 11 not; never intercepted (D21). -/
def execCcc (cc : Cond) (a : Word) (s : State) : Result :=
  if s.flags.holds cc then callTo 3 17 a s else plain 3 11 id s

/-- RET (R136). -/
def execRet (s : State) : Result := returnFrom 10 s

/-- Rcc (R137): 11 cycles taken, 5 not. -/
def execRcc (cc : Cond) (s : State) : Result :=
  if s.flags.holds cc then returnFrom 11 s else plain 1 5 id s

/-- RST n (R138). -/
def execRst (n : BitVec 3) (s : State) : Result := callTo 1 11 (vector n) s

end Sys2Proof.Machine
end

