-- ==== Sys2Proof/Machine/DataTransfer.lean ====
section
/-! DEFINITION. The data transfer instructions (42_data_transfer.md). None writes a flag. -/

namespace Sys2Proof.Machine

/-- MOV d,s (R88). -/
def execMovRR (dst src : Reg) (s : State) : Result :=
  plain 1 5 (fun u => u.setReg dst (u.reg src)) s

/-- MOV d,M (R89). -/
def execMovRM (dst : Reg) (s : State) : Result :=
  plain 1 7 (fun u => u.setReg dst u.m) s

/-- MOV M,s (R90). -/
def execMovMR (src : Reg) (s : State) : Result :=
  faulting 1 7 (fun u => memWrite u.hl (u.reg src) u) s

/-- MVI d,d8 (R91). -/
def execMviR (dst : Reg) (v : Byte) (s : State) : Result :=
  plain 2 7 (fun u => u.setReg dst v) s

/-- MVI M,d8 (R92). -/
def execMviM (v : Byte) (s : State) : Result :=
  faulting 2 10 (fun u => memWrite u.hl v u) s

/-- LXI rp,d16 (R93). -/
def execLxi (p : SpPair) (v : Word) (s : State) : Result :=
  plain 3 10 (fun u => u.setSpPair p v) s

/-- LDA a16 (R94). -/
def execLda (a : Word) (s : State) : Result :=
  plain 3 13 (fun u => { u with a := memRead u a }) s

/-- STA a16 (R95). -/
def execSta (a : Word) (s : State) : Result :=
  faulting 3 13 (fun u => memWrite a u.a u) s

/-- LHLD a16 (R96). -/
def execLhld (a : Word) (s : State) : Result :=
  plain 3 16 (fun u => u.setHl (memRead16 u a)) s

/-- SHLD a16 (R97). -/
def execShld (a : Word) (s : State) : Result :=
  faulting 3 16 (fun u => memWrite16 a u.hl u) s

/-- LDAX rp (R98). -/
def execLdax (p : IndexPair) (s : State) : Result :=
  plain 1 7 (fun u => { u with a := memRead u (u.indexPair p) }) s

/-- STAX rp (R99). -/
def execStax (p : IndexPair) (s : State) : Result :=
  faulting 1 7 (fun u => memWrite (u.indexPair p) u.a u) s

/-- XCHG (R100). -/
def execXchg (s : State) : Result :=
  plain 1 4 (fun u => { u with d := u.h, e := u.l, h := u.d, l := u.e }) s

end Sys2Proof.Machine
end

