-- ==== Sys2Proof/Machine/Logical.lean ====
section
/-! DEFINITION. The logical, compare, rotate and flag instructions (44_logical.md). -/

namespace Sys2Proof.Machine

/-- A logical operation writes its result to A, clears CY and AC and sets Z, S, P (R85). -/
def logicToA (r : Byte) (s : State) : State := { s with a := r, flags := s.flags.setLogic r }

/-- A compare writes the flags of a subtraction and keeps A (R121, R122). -/
def compareA (v : Byte) (s : State) : State :=
  { s with flags := s.flags.setAll (aluSub s.cfg.acSubRule s.a v false) }

/-- A rotate or carry instruction writes A and CY only (R123 to R126). -/
def setACarry (r : Byte) (cy : Bool) (s : State) : State :=
  { s with a := r, flags := { s.flags with cy := cy } }

/-- A bit as the byte 0 or 1. -/
def bitByte (b : Bool) : Byte := if b then 1#8 else 0#8

/-- ANA r (R115). -/
def execAnaR (src : Reg) (s : State) : Result :=
  plain 1 4 (fun u => logicToA (u.a &&& u.reg src) u) s

/-- ANA M (R115). -/
def execAnaM (s : State) : Result :=
  plain 1 7 (fun u => logicToA (u.a &&& u.m) u) s

/-- ANI d8 (R116). -/
def execAni (v : Byte) (s : State) : Result :=
  plain 2 7 (fun u => logicToA (u.a &&& v) u) s

/-- XRA r (R117). -/
def execXraR (src : Reg) (s : State) : Result :=
  plain 1 4 (fun u => logicToA (u.a ^^^ u.reg src) u) s

/-- XRA M (R117). -/
def execXraM (s : State) : Result :=
  plain 1 7 (fun u => logicToA (u.a ^^^ u.m) u) s

/-- XRI d8 (R118). -/
def execXri (v : Byte) (s : State) : Result :=
  plain 2 7 (fun u => logicToA (u.a ^^^ v) u) s

/-- ORA r (R119). -/
def execOraR (src : Reg) (s : State) : Result :=
  plain 1 4 (fun u => logicToA (u.a ||| u.reg src) u) s

/-- ORA M (R119). -/
def execOraM (s : State) : Result :=
  plain 1 7 (fun u => logicToA (u.a ||| u.m) u) s

/-- ORI d8 (R120). -/
def execOri (v : Byte) (s : State) : Result :=
  plain 2 7 (fun u => logicToA (u.a ||| v) u) s

/-- CMP r (R121). -/
def execCmpR (src : Reg) (s : State) : Result :=
  plain 1 4 (fun u => compareA (u.reg src) u) s

/-- CMP M (R121). -/
def execCmpM (s : State) : Result :=
  plain 1 7 (fun u => compareA u.m u) s

/-- CPI d8 (R122). -/
def execCpi (v : Byte) (s : State) : Result :=
  plain 2 7 (fun u => compareA v u) s

/-- RLC (R123). -/
def execRlc (s : State) : Result :=
  plain 1 4 (fun u => setACarry (u.a <<< 1 ||| bitByte (u.a.getLsbD 7)) (u.a.getLsbD 7) u) s

/-- RRC (R124). -/
def execRrc (s : State) : Result :=
  plain 1 4 (fun u => setACarry (bitByte (u.a.getLsbD 0) <<< 7 ||| u.a >>> 1) (u.a.getLsbD 0) u) s

/-- RAL (R125). -/
def execRal (s : State) : Result :=
  plain 1 4 (fun u => setACarry (u.a <<< 1 ||| bitByte u.flags.cy) (u.a.getLsbD 7) u) s

/-- RAR (R126). -/
def execRar (s : State) : Result :=
  plain 1 4 (fun u => setACarry (bitByte u.flags.cy <<< 7 ||| u.a >>> 1) (u.a.getLsbD 0) u) s

/-- CMA (R127). -/
def execCma (s : State) : Result :=
  plain 1 4 (fun u => { u with a := u.a ^^^ 0xFF }) s

/-- STC (R128). -/
def execStc (s : State) : Result :=
  plain 1 4 (fun u => { u with flags := { u.flags with cy := true } }) s

/-- CMC (R129). -/
def execCmc (s : State) : Result :=
  plain 1 4 (fun u => { u with flags := { u.flags with cy := !u.flags.cy } }) s

end Sys2Proof.Machine
end

