-- ==== Sys2Proof/Machine/StackIoControl.lean ====
section
/-! DEFINITION. The stack, I/O and machine-control instructions (46_stack_io_control.md) and the illegal
opcodes (30_encoding.md R65). -/

namespace Sys2Proof.Machine

/-- PUSH rp (R139). -/
def execPushRp (p : Pair) (s : State) : Result := faulting 1 11 (fun u => push16 (u.pair p) u) s

/-- PUSH PSW (R140). -/
def execPushPsw (s : State) : Result :=
  faulting 1 11 (fun u => push16 (joinBytes u.a u.flags.pack) u) s

/-- POP rp (R141). -/
def execPopRp (p : Pair) (s : State) : Result :=
  plain 1 10 (fun u => (popped u).setPair p (popValue u)) s

/-- POP PSW (R142). -/
def execPopPsw (s : State) : Result :=
  plain 1 10
    (fun u =>
      { popped u with a := hiByte (popValue u), flags := Flags.unpack (loByte (popValue u)) }) s

/-- XTHL (R143): both reads, both writes, then HL. -/
def execXthl (s : State) : Result :=
  faulting 1 18
    (fun u =>
      andThen (memWrite u.sp u.l u) fun t =>
        andThen (memWrite (u.sp + 1) u.h t) fun w =>
          .next { w with l := memRead u u.sp, h := memRead u (u.sp + 1) }) s

/-- SPHL (R144). -/
def execSphl (s : State) : Result := plain 1 5 (fun u => { u with sp := u.hl }) s

/-- IN p8 (R145). -/
def execInp (port : Byte) (s : State) : Result :=
  faulting 2 10 (fun u => andThen (portIn port u) fun r => .next { r.2 with a := r.1 }) s

/-- OUT p8 (R146). -/
def execOutp (port : Byte) (s : State) : Result := faulting 2 10 (fun u => portOut port u.a u) s

/-- EI (R147): no delay (D12). -/
def execEi (s : State) : Result := plain 1 4 (fun u => { u with inte := true }) s

/-- DI (R148). -/
def execDi (s : State) : Result := plain 1 4 (fun u => { u with inte := false }) s

/-- HLT (R149). -/
def execHlt (s : State) : Result := .next (halt 7 s)

/-- NOP (R150). -/
def execNop (s : State) : Result := plain 1 4 id s

/-- An illegal opcode (R65, R152): InvalidInstruction before any state changes (log 13). -/
def execIllegal (op : Byte) (s : State) : Result := raise (.invalidInstruction s.pc op) s

end Sys2Proof.Machine
end

