-- ==== Sys2Proof/WellFormed.lean ====
section
/-! DEFINITION. Which terms of `Instr` stand for an instruction. The operand types already exclude the
field values the table excludes; what is left to check is the byte of an illegal opcode. -/

namespace Sys2Proof

/-- The twelve illegal opcodes (R65). -/
def illegalOpcodes : List Byte :=
  [0x08, 0x10, 0x18, 0x20, 0x28, 0x30, 0x38, 0xCB, 0xD9, 0xDD, 0xED, 0xFD]

/-- Every operand value of a legal instruction is legal (R66); `illegal op` stands for an opcode only
where `op` is one of the twelve. -/
def Instr.wellFormed : Instr → Bool
  | .movRR _ _ => true
  | .movRM _ => true
  | .movMR _ => true
  | .mviR _ _ => true
  | .mviM _ => true
  | .lxi _ _ => true
  | .lda _ => true
  | .sta _ => true
  | .lhld _ => true
  | .shld _ => true
  | .ldax _ => true
  | .stax _ => true
  | .xchg => true
  | .addR _ => true
  | .addM => true
  | .adcR _ => true
  | .adcM => true
  | .subR _ => true
  | .subM => true
  | .sbbR _ => true
  | .sbbM => true
  | .anaR _ => true
  | .anaM => true
  | .xraR _ => true
  | .xraM => true
  | .oraR _ => true
  | .oraM => true
  | .cmpR _ => true
  | .cmpM => true
  | .adi _ => true
  | .aci _ => true
  | .sui _ => true
  | .sbi _ => true
  | .ani _ => true
  | .xri _ => true
  | .ori _ => true
  | .cpi _ => true
  | .inrR _ => true
  | .inrM => true
  | .dcrR _ => true
  | .dcrM => true
  | .inx _ => true
  | .dcx _ => true
  | .dad _ => true
  | .daa => true
  | .rlc => true
  | .rrc => true
  | .ral => true
  | .rar => true
  | .cma => true
  | .stc => true
  | .cmc => true
  | .jmp _ => true
  | .jcc _ _ => true
  | .call _ => true
  | .ccc _ _ => true
  | .ret => true
  | .rcc _ => true
  | .rst _ => true
  | .pchl => true
  | .pushRp _ => true
  | .pushPsw => true
  | .popRp _ => true
  | .popPsw => true
  | .xthl => true
  | .sphl => true
  | .inp _ => true
  | .outp _ => true
  | .ei => true
  | .di => true
  | .hlt => true
  | .nop => true
  | .illegal op => illegalOpcodes.contains op

end Sys2Proof
end

