-- ==== Sys2Proof/Decode.lean ====
section
/-! DEFINITION. The decoder (R54 to R67), total on every list of bytes, and the encoder written from the
same format table (R60). -/

namespace Sys2Proof

open Sys2Proof.Machine (joinBytes hiByte loByte)

/-! ### Fields of the opcode byte (R55) -/

/-- `GG`, bits 7:6, the major group. -/
def fieldGG (op : Byte) : Nat := (op.extractLsb' 6 2).toNat

/-- `DDD`, bits 5:3; also `AAA`, `CCC` and `NNN`. -/
def fieldDDD (op : Byte) : BitVec 3 := op.extractLsb' 3 3

/-- `SSS`, bits 2:0. -/
def fieldSSS (op : Byte) : BitVec 3 := op.extractLsb' 0 3

/-- `RP`, bits 5:4. -/
def fieldRP (op : Byte) : BitVec 2 := op.extractLsb' 4 2

/-- `Q`, bit 3. -/
def fieldQ (op : Byte) : Bool := op.getLsbD 3

/-! ### Field codes -/

/-- The register code (R56); `none` is code 110, the memory byte `M`. -/
def regOfCode (c : BitVec 3) : Option Reg :=
  match c.toNat with
  | 0 => some .b
  | 1 => some .c
  | 2 => some .d
  | 3 => some .e
  | 4 => some .h
  | 5 => some .l
  | 6 => none
  | _ => some .a

/-- The pair code of LXI, INX, DCX and DAD (R57). -/
def spPairOfCode (c : BitVec 2) : SpPair :=
  match c.toNat with
  | 0 => .bc
  | 1 => .de
  | 2 => .hl
  | _ => .sp

/-- The pair code of PUSH and POP (R57); `none` is code 11, PSW. -/
def pairOfCode (c : BitVec 2) : Option Pair :=
  match c.toNat with
  | 0 => some .bc
  | 1 => some .de
  | 2 => some .hl
  | _ => none

/-- The condition code (R59). -/
def condOfCode (c : BitVec 3) : Cond :=
  match c.toNat with
  | 0 => .nz
  | 1 => .z
  | 2 => .nc
  | 3 => .c
  | 4 => .po
  | 5 => .pe
  | 6 => .p
  | _ => .m

/-! ### The decode tree (R67) -/

/-- Group 00. `b1` and `b2` are the operand bytes, read only by the forms that have them (R61). -/
def decodeGroup00 (op b1 b2 : Byte) : Instr :=
  match (fieldSSS op).toNat with
  | 0 => if op = 0x00 then .nop else .illegal op
  | 1 =>
    if fieldQ op then .dad (spPairOfCode (fieldRP op))
    else .lxi (spPairOfCode (fieldRP op)) (joinBytes b2 b1)
  | 2 =>
    match (fieldDDD op).toNat with
    | 0 => .stax .bc
    | 1 => .ldax .bc
    | 2 => .stax .de
    | 3 => .ldax .de
    | 4 => .shld (joinBytes b2 b1)
    | 5 => .lhld (joinBytes b2 b1)
    | 6 => .sta (joinBytes b2 b1)
    | _ => .lda (joinBytes b2 b1)
  | 3 =>
    if fieldQ op then .dcx (spPairOfCode (fieldRP op)) else .inx (spPairOfCode (fieldRP op))
  | 4 =>
    match regOfCode (fieldDDD op) with
    | some dst => .inrR dst
    | none => .inrM
  | 5 =>
    match regOfCode (fieldDDD op) with
    | some dst => .dcrR dst
    | none => .dcrM
  | 6 =>
    match regOfCode (fieldDDD op) with
    | some dst => .mviR dst b1
    | none => .mviM b1
  | _ =>
    match (fieldDDD op).toNat with
    | 0 => .rlc
    | 1 => .rrc
    | 2 => .ral
    | 3 => .rar
    | 4 => .daa
    | 5 => .cma
    | 6 => .stc
    | _ => .cmc

/-- Group 01: MOV, and HLT in the place of MOV M,M (R64). -/
def decodeGroup01 (op : Byte) : Instr :=
  match regOfCode (fieldDDD op), regOfCode (fieldSSS op) with
  | some dst, some src => .movRR dst src
  | some dst, none => .movRM dst
  | none, some src => .movMR src
  | none, none => .hlt

/-- Group 10: the ALU operation AAA on a register or M (R58). -/
def decodeGroup10 (op : Byte) : Instr :=
  match (fieldDDD op).toNat, regOfCode (fieldSSS op) with
  | 0, some src => .addR src
  | 0, none => .addM
  | 1, some src => .adcR src
  | 1, none => .adcM
  | 2, some src => .subR src
  | 2, none => .subM
  | 3, some src => .sbbR src
  | 3, none => .sbbM
  | 4, some src => .anaR src
  | 4, none => .anaM
  | 5, some src => .xraR src
  | 5, none => .xraM
  | 6, some src => .oraR src
  | 6, none => .oraM
  | _, some src => .cmpR src
  | _, none => .cmpM

/-- Group 11. -/
def decodeGroup11 (op b1 b2 : Byte) : Instr :=
  match (fieldSSS op).toNat with
  | 0 => .rcc (condOfCode (fieldDDD op))
  | 1 =>
    if fieldQ op then
      match (fieldRP op).toNat with
      | 0 => .ret
      | 1 => .illegal op
      | 2 => .pchl
      | _ => .sphl
    else
      match pairOfCode (fieldRP op) with
      | some p => .popRp p
      | none => .popPsw
  | 2 => .jcc (condOfCode (fieldDDD op)) (joinBytes b2 b1)
  | 3 =>
    match (fieldDDD op).toNat with
    | 0 => .jmp (joinBytes b2 b1)
    | 1 => .illegal op
    | 2 => .outp b1
    | 3 => .inp b1
    | 4 => .xthl
    | 5 => .xchg
    | 6 => .di
    | _ => .ei
  | 4 => .ccc (condOfCode (fieldDDD op)) (joinBytes b2 b1)
  | 5 =>
    if fieldQ op then
      match (fieldRP op).toNat with
      | 0 => .call (joinBytes b2 b1)
      | _ => .illegal op
    else
      match pairOfCode (fieldRP op) with
      | some p => .pushRp p
      | none => .pushPsw
  | 6 =>
    match (fieldDDD op).toNat with
    | 0 => .adi b1
    | 1 => .aci b1
    | 2 => .sui b1
    | 3 => .sbi b1
    | 4 => .ani b1
    | 5 => .xri b1
    | 6 => .ori b1
    | _ => .cpi b1
  | _ => .rst (fieldDDD op)

/-- The instruction of the opcode `op` with operand bytes `b1` and `b2` (R67). -/
def decodeOp (op b1 b2 : Byte) : Instr :=
  match fieldGG op with
  | 0 => decodeGroup00 op b1 b2
  | 1 => decodeGroup01 op
  | 2 => decodeGroup10 op
  | _ => decodeGroup11 op b1 b2

/-- The length in bytes as a function of the opcode alone, in the words of R62. An illegal opcode has
no length; only its opcode byte is fetched (R65), so it counts 1 here. -/
def opLength (op : Byte) : Nat :=
  if op &&& 0xCF = 0x01 then 3
  else if op = 0x22 ∨ op = 0x2A ∨ op = 0x32 ∨ op = 0x3A ∨ op = 0xC3 ∨ op = 0xCD then 3
  else if op &&& 0xC7 = 0xC2 ∨ op &&& 0xC7 = 0xC4 then 3
  else if op &&& 0xC7 = 0x06 ∨ op &&& 0xC7 = 0xC6 then 2
  else if op = 0xD3 ∨ op = 0xDB then 2
  else 1

/-- Why a list of bytes is no instruction. Every single opcode byte has a decoding (an illegal one
decodes to `Instr.illegal`), so bytes can only be missing. -/
inductive DecodeError where
  /-- There is no opcode byte. -/
  | noBytes
  /-- The operand bytes of this opcode are missing. -/
  | truncated (op : Byte)
  deriving DecidableEq, Repr

/-- Decode the instruction at the head of a list of bytes and give the rest of the list. -/
def decode : List Byte → Except DecodeError (Instr × List Byte)
  | [] => .error .noBytes
  | op :: rest =>
    match opLength op, rest with
    | 1, rest => .ok (decodeOp op 0 0, rest)
    | 2, b1 :: rest => .ok (decodeOp op b1 0, rest)
    | 3, b1 :: b2 :: rest => .ok (decodeOp op b1 b2, rest)
    | _, _ => .error (.truncated op)

/-! ### The encoder (R60: "opcode base byte OR'd with shifted ... code fields") -/

def Reg.code : Reg → Byte
  | .b => 0
  | .c => 1
  | .d => 2
  | .e => 3
  | .h => 4
  | .l => 5
  | .a => 7

def Pair.code : Pair → Byte
  | .bc => 0
  | .de => 1
  | .hl => 2

def SpPair.code : SpPair → Byte
  | .bc => 0
  | .de => 1
  | .hl => 2
  | .sp => 3

def IndexPair.code : IndexPair → Byte
  | .bc => 0
  | .de => 1

def Cond.code : Cond → Byte
  | .nz => 0
  | .z => 1
  | .nc => 2
  | .c => 3
  | .po => 4
  | .pe => 5
  | .p => 6
  | .m => 7

/-- Three bytes: opcode, low byte, high byte (R61). -/
def encodeWordOperand (op : Byte) (v : Word) : List Byte := [op, loByte v, hiByte v]

/-- The bytes of an instruction (R60, R63). -/
def encode : Instr → List Byte
  | .movRR dst src => [0x40 ||| dst.code <<< 3 ||| src.code]
  | .movRM dst => [0x46 ||| dst.code <<< 3]
  | .movMR src => [0x70 ||| src.code]
  | .mviR dst v => [0x06 ||| dst.code <<< 3, v]
  | .mviM v => [0x36, v]
  | .lxi p v => encodeWordOperand (0x01 ||| p.code <<< 4) v
  | .lda a => encodeWordOperand 0x3A a
  | .sta a => encodeWordOperand 0x32 a
  | .lhld a => encodeWordOperand 0x2A a
  | .shld a => encodeWordOperand 0x22 a
  | .ldax p => [0x0A ||| p.code <<< 4]
  | .stax p => [0x02 ||| p.code <<< 4]
  | .xchg => [0xEB]
  | .addR src => [0x80 ||| src.code]
  | .addM => [0x86]
  | .adcR src => [0x88 ||| src.code]
  | .adcM => [0x8E]
  | .subR src => [0x90 ||| src.code]
  | .subM => [0x96]
  | .sbbR src => [0x98 ||| src.code]
  | .sbbM => [0x9E]
  | .anaR src => [0xA0 ||| src.code]
  | .anaM => [0xA6]
  | .xraR src => [0xA8 ||| src.code]
  | .xraM => [0xAE]
  | .oraR src => [0xB0 ||| src.code]
  | .oraM => [0xB6]
  | .cmpR src => [0xB8 ||| src.code]
  | .cmpM => [0xBE]
  | .adi v => [0xC6, v]
  | .aci v => [0xCE, v]
  | .sui v => [0xD6, v]
  | .sbi v => [0xDE, v]
  | .ani v => [0xE6, v]
  | .xri v => [0xEE, v]
  | .ori v => [0xF6, v]
  | .cpi v => [0xFE, v]
  | .inrR dst => [0x04 ||| dst.code <<< 3]
  | .inrM => [0x34]
  | .dcrR dst => [0x05 ||| dst.code <<< 3]
  | .dcrM => [0x35]
  | .inx p => [0x03 ||| p.code <<< 4]
  | .dcx p => [0x0B ||| p.code <<< 4]
  | .dad p => [0x09 ||| p.code <<< 4]
  | .daa => [0x27]
  | .rlc => [0x07]
  | .rrc => [0x0F]
  | .ral => [0x17]
  | .rar => [0x1F]
  | .cma => [0x2F]
  | .stc => [0x37]
  | .cmc => [0x3F]
  | .jmp a => encodeWordOperand 0xC3 a
  | .jcc cc a => encodeWordOperand (0xC2 ||| cc.code <<< 3) a
  | .call a => encodeWordOperand 0xCD a
  | .ccc cc a => encodeWordOperand (0xC4 ||| cc.code <<< 3) a
  | .ret => [0xC9]
  | .rcc cc => [0xC0 ||| cc.code <<< 3]
  | .rst n => [0xC7 ||| n.zeroExtend 8 <<< 3]
  | .pchl => [0xE9]
  | .pushRp p => [0xC5 ||| p.code <<< 4]
  | .pushPsw => [0xF5]
  | .popRp p => [0xC1 ||| p.code <<< 4]
  | .popPsw => [0xF1]
  | .xthl => [0xE3]
  | .sphl => [0xF9]
  | .inp port => [0xDB, port]
  | .outp port => [0xD3, port]
  | .ei => [0xFB]
  | .di => [0xF3]
  | .hlt => [0x76]
  | .nop => [0x00]
  | .illegal op => [op]

/-! ### The host's table words -/

/-- The three bytes of a table word, first byte in bits 7..0, every bit from `nbits` up being 0. -/
def tableWordBytes (nbits w : Nat) : List Byte :=
  [BitVec.ofNat 8 (w % 2 ^ nbits), BitVec.ofNat 8 (w % 2 ^ nbits / 256),
    BitVec.ofNat 8 (w % 2 ^ nbits / 65536)]

/-- The instruction the decoder reads from a table word. -/
def decodeTableWord (nbits w : Nat) : Option Instr :=
  match decode (tableWordBytes nbits w) with
  | .ok (i, _) => some i
  | .error _ => none

end Sys2Proof
end

