-- ==== Sys2Proof/Machine/Pipeline.lean ====
section
/-! DEFINITION. Fetch (R74) and the Step algorithm around the execution of one instruction: R73, and with
SAFE_MODE = 1 the wrapper of R169. -/

namespace Sys2Proof.Machine

/-- Fetch and decode at an address: the opcode, and its operand bytes only where its length has them
(R73, R74). Addresses wrap modulo 2^16. -/
def fetchInstr (m : Memory) (pc0 : Word) : Instr :=
  let op := m.read pc0.toNat
  let b1 := if opLength op ≥ 2 then m.read (pc0 + 1).toNat else 0
  let b2 := if opLength op = 3 then m.read (pc0 + 2).toNat else 0
  decodeOp op b1 b2

/-- `iterations <- iterations + 1` (R25, R73). -/
def countStep (s : State) : State := { s with iterations := s.iterations + 1 }

/-- The body of a Step (R73). `execute` is the dispatch over the instructions. -/
def stepBody (execute : Instr → State → Result) (s : State) : Result :=
  execute (fetchInstr s.mem s.pc) (countStep s)

/-- Safe mode, first half: push the snapshot, run the body, and turn a fault into the state that waits
for the retry (R169). -/
def guardedBody (body : State → Result) (s : State) : Result :=
  match body (pushSnapshot s) with
  | .next t => .next t
  | .fault f => .next (markFault s.pc f)
  | .refused r => .refused r

/-- `S <- pop(snapStack); restore(S); pendingFault <- 0; report(S.PC, ...)` (R169). -/
def retryState (x : Snapshot) (rest : List Snapshot) (s : State) : State :=
  { s.restore x with
    snapStack := rest
    pendingFault := false
    hostLog := .retryReport x.pc (fetchInstr x.mem x.pc) :: s.hostLog }

/-- A Step with SAFE_MODE = 1 (R169). A pending fault without a snapshot is refused (log 10). -/
def safeStep (body : State → Result) (s : State) : Result :=
  if s.pendingFault then
    match s.snapStack with
    | [] => .refused .snapshotMissing
    | x :: rest => guardedBody body (retryState x rest s)
  else guardedBody body s

/-- One Step in the mode the state is in. -/
def stepVia (execute : Instr → State → Result) (s : State) : Result :=
  if s.cfg.safeMode then safeStep (stepBody execute) s else stepBody execute s

/-- Copy bytes to consecutive addresses, modulo 2^16, past the checks of MemWrite (R175). -/
def placeBytes : List Byte → Word → Memory → Memory
  | [], _, m => m
  | v :: rest, a, m => placeBytes rest (a + 1) (m.write a.toNat v)

end Sys2Proof.Machine
end

