-- ==== Sys2Proof/Machine/Step.lean ====
section
/-! DEFINITION. One Step (R72). -/

namespace Sys2Proof.Machine

/-- `Step(cpuDiagMode)`, with the argument in `diagMode` and the result in `returned` (log 6, log 7). -/
def step (s : State) : Host.Outcome State Fault Refusal := stepVia exec s

/-- `s` with the instruction of a table word placed where the next Step fetches it: at PC, or, where
safe mode is about to restore a snapshot, in that snapshot's memory at its PC (log 12). -/
def State.withFetchWord (s : State) (nbits w : Nat) : State :=
  match s.cfg.safeMode && s.pendingFault, s.snapStack with
  | true, x :: rest =>
    { s with
      snapStack := { x with mem := placeBytes (tableWordBytes nbits w) x.pc x.mem } :: rest }
  | _, _ => { s with mem := placeBytes (tableWordBytes nbits w) s.pc s.mem }

end Sys2Proof.Machine
end

