-- ==== Sys2Proof/Machine/Timing.lean ====
section
/-! DEFINITION. The length of an instruction (R62) and the cycle table (R181), as functions of the
instruction. The meanings carry these numbers themselves; the table is what they are held against. -/

namespace Sys2Proof.Machine

/-- The length in bytes (R62, opcode_table.json); an illegal opcode occupies its one byte. -/
def instrLength : Instr → Nat
  | .movRR _ _ => 1
  | .movRM _ => 1
  | .movMR _ => 1
  | .mviR _ _ => 2
  | .mviM _ => 2
  | .lxi _ _ => 3
  | .lda _ => 3
  | .sta _ => 3
  | .lhld _ => 3
  | .shld _ => 3
  | .ldax _ => 1
  | .stax _ => 1
  | .xchg => 1
  | .addR _ => 1
  | .addM => 1
  | .adcR _ => 1
  | .adcM => 1
  | .subR _ => 1
  | .subM => 1
  | .sbbR _ => 1
  | .sbbM => 1
  | .anaR _ => 1
  | .anaM => 1
  | .xraR _ => 1
  | .xraM => 1
  | .oraR _ => 1
  | .oraM => 1
  | .cmpR _ => 1
  | .cmpM => 1
  | .adi _ => 2
  | .aci _ => 2
  | .sui _ => 2
  | .sbi _ => 2
  | .ani _ => 2
  | .xri _ => 2
  | .ori _ => 2
  | .cpi _ => 2
  | .inrR _ => 1
  | .inrM => 1
  | .dcrR _ => 1
  | .dcrM => 1
  | .inx _ => 1
  | .dcx _ => 1
  | .dad _ => 1
  | .daa => 1
  | .rlc => 1
  | .rrc => 1
  | .ral => 1
  | .rar => 1
  | .cma => 1
  | .stc => 1
  | .cmc => 1
  | .jmp _ => 3
  | .jcc _ _ => 3
  | .call _ => 3
  | .ccc _ _ => 3
  | .ret => 1
  | .rcc _ => 1
  | .rst _ => 1
  | .pchl => 1
  | .pushRp _ => 1
  | .pushPsw => 1
  | .popRp _ => 1
  | .popPsw => 1
  | .xthl => 1
  | .sphl => 1
  | .inp _ => 2
  | .outp _ => 2
  | .ei => 1
  | .di => 1
  | .hlt => 1
  | .nop => 1
  | .illegal _ => 1

/-- The cycle cost (R181); `f` are the flags the conditions of Ccc and Rcc read. An illegal opcode has
no cost, since it faults. -/
def cycleCost (f : Flags) : Instr → Nat
  | .movRR _ _ => 5
  | .movRM _ => 7
  | .movMR _ => 7
  | .mviR _ _ => 7
  | .mviM _ => 10
  | .lxi _ _ => 10
  | .lda _ => 13
  | .sta _ => 13
  | .lhld _ => 16
  | .shld _ => 16
  | .ldax _ => 7
  | .stax _ => 7
  | .xchg => 4
  | .addR _ => 4
  | .addM => 7
  | .adcR _ => 4
  | .adcM => 7
  | .subR _ => 4
  | .subM => 7
  | .sbbR _ => 4
  | .sbbM => 7
  | .anaR _ => 4
  | .anaM => 7
  | .xraR _ => 4
  | .xraM => 7
  | .oraR _ => 4
  | .oraM => 7
  | .cmpR _ => 4
  | .cmpM => 7
  | .adi _ => 7
  | .aci _ => 7
  | .sui _ => 7
  | .sbi _ => 7
  | .ani _ => 7
  | .xri _ => 7
  | .ori _ => 7
  | .cpi _ => 7
  | .inrR _ => 5
  | .inrM => 10
  | .dcrR _ => 5
  | .dcrM => 10
  | .inx _ => 5
  | .dcx _ => 5
  | .dad _ => 10
  | .daa => 4
  | .rlc => 4
  | .rrc => 4
  | .ral => 4
  | .rar => 4
  | .cma => 4
  | .stc => 4
  | .cmc => 4
  | .jmp _ => 10
  | .jcc _ _ => 10
  | .call _ => 17
  | .ccc cc _ => if f.holds cc then 17 else 11
  | .ret => 10
  | .rcc cc => if f.holds cc then 11 else 5
  | .rst _ => 11
  | .pchl => 5
  | .pushRp _ => 11
  | .pushPsw => 11
  | .popRp _ => 10
  | .popPsw => 10
  | .xthl => 18
  | .sphl => 5
  | .inp _ => 10
  | .outp _ => 10
  | .ei => 4
  | .di => 4
  | .hlt => 7
  | .nop => 4
  | .illegal _ => 0

end Sys2Proof.Machine
end

