-- ==== Sys2Proof/Machine/Run.lean ====
section
/-! DEFINITION. Run (R80): Steps until the cycle budget is spent, a Step halts, or a fault occurs. -/

namespace Sys2Proof.Machine

/-- `Step(cpuDiagMode)` with its argument given (R72). -/
def stepWith (diag : Bool) (s : State) : Host.Outcome State Fault Refusal :=
  step { s with diagMode := diag }

/-- How a Run ends. The first three are the results of R80; a fault outside safe mode ends the Run as a
fault outcome (R153). -/
inductive RunEnd where
  | halted (s : State)
  | faultReported (s : State)
  | budgetSpent (s : State)
  | fault (f : Fault)
  | refused (r : Refusal)
  /-- The step bound of `runFrom` was reached; never with the bound `run` takes. -/
  | stepBoundReached (s : State)
  deriving DecidableEq, Repr

/-- The loop of R80. `target` is `start + budget`, so `cycles - start < budget` is `cycles < target`
(log 18); the first argument bounds the number of Steps. -/
def runFrom (diag : Bool) (target : Nat) : Nat → State → RunEnd
  | 0, s => .stepBoundReached s
  | n + 1, s =>
    if s.cycles < target then
      match stepWith diag s with
      | .fault f => .fault f
      | .refused r => .refused r
      | .next t =>
        if t.returned.toInt ≤ 0 then .halted t
        else if t.cfg.safeMode && t.pendingFault then .faultReported t
        else runFrom diag target n t
    else .budgetSpent s

/-- `Run(budget, cpuDiagMode)` (R80). Every Step that goes on charges cycles, so `start + budget + 1`
Steps are more than enough. -/
def run (budget : Nat) (diag : Bool) (s : State) : RunEnd :=
  runFrom diag (s.cycles + budget) (s.cycles + budget + 1) s

end Sys2Proof.Machine
end

