-- ==== Sys2Proof/Machine/HostInterface.lean ====
section
/-! DEFINITION. What the host can do between Steps (R50, R157 to R164, R175, R179), and the machine as the
host sees it: a sequence of host calls and Steps. -/

namespace Sys2Proof.Machine

/-! ### Interrupt requests (R157 to R159, R164) -/

/-- `GenerateInterrupt(n)`: n outside 0..7 is rejected; INTE is not tested (R158). -/
def generateInterrupt (n : Int) (s : State) : Result :=
  if 0 ≤ n ∧ n ≤ 7 then interruptEntry (BitVec.ofInt 3 n) s else .refused (.rstOutOfRange n)

/-! ### Pins (R22, R162, R163) -/

inductive Pin where
  | inte | hold | wait
  deriving DecidableEq, Repr

def pinOfName (name : String) : Option Pin :=
  if name = "INTE" then some .inte
  else if name = "HOLD" then some .hold
  else if name = "WAIT" then some .wait
  else none

def setPin (name : String) (b : Bool) (s : State) : Result :=
  match pinOfName name with
  | some .inte => .next { s with inte := b }
  | some .hold => .next { s with hold := b }
  | some .wait => .next { s with wait := b }
  | none => .refused (.invalidPinName name)

/-- `GetPin(name)`: it changes nothing. -/
def getPin (name : String) (s : State) : ResultOf Bool :=
  match pinOfName name with
  | some .inte => .next s.inte
  | some .hold => .next s.hold
  | some .wait => .next s.wait
  | none => .refused (.invalidPinName name)

/-- The code of a configuration error (R151, codes 16 and 17). -/
def configErrorCode : Refusal → Option Nat
  | .rstOutOfRange _ => some 16
  | .invalidPinName _ => some 17
  | _ => none

/-! ### Loading, handlers, configuration (R27, R29, R175) -/

/-- Copy an image to `offset` (R175); one that runs past 0xFFFF is refused (log 15). -/
def loadImage (offset : Word) (bytes : List Byte) (s : State) : Result :=
  if offset.toNat + bytes.length ≤ Config.memSize then
    .next { s with mem := placeBytes bytes offset s.mem }
  else .refused (.imageOutOfRange offset bytes.length)

/-- Mark a port as populated, keeping the list of ports rising. -/
def installPort : List Byte → Byte → List Byte
  | [], p => [p]
  | q :: rest, p =>
    if p.toNat < q.toNat then p :: q :: rest
    else if p = q then q :: rest
    else q :: installPort rest p

/-- Mark a port as unpopulated. -/
def removePort : List Byte → Byte → List Byte
  | [], _ => []
  | q :: rest, p => if q = p then removePort rest p else q :: removePort rest p

/-- The host's calls. -/
inductive HostCall where
  /-- GenerateInterrupt(n) (R159). -/
  | generateInterrupt (n : Int)
  /-- SetPin(name, b) (R162). -/
  | setPin (name : String) (b : Bool)
  /-- Construct a new core: the one reset there is (R174). -/
  | construct
  /-- Copy a binary image into memory (R175). -/
  | loadImage (offset : Word) (bytes : List Byte)
  /-- Host writes to memory, registers, flags and port bytes (R50, R28). -/
  | writeMem (a : Word) (v : Byte)
  | writeReg (r : Reg) (v : Byte)
  | writeSp (v : Word)
  | writePc (v : Word)
  | writeFlags (b : Byte)
  | writePortByte (p v : Byte)
  /-- Install or remove port handlers (R27, R175). -/
  | installIn (p : Byte)
  | removeIn (p : Byte)
  | installOut (p : Byte)
  | removeOut (p : Byte)
  /-- Configuration writes (R29). -/
  | setMirrorOffset (v : Word)
  | setRoRange (r : Option (Word × Word))
  | setSafeMode (b : Bool)
  /-- The host settles what its next handler calls will answer (log 3). -/
  | settleReplies (rs : List HandlerReply)
  deriving DecidableEq, Repr

/-- The effect of a host call; every one takes effect from the next Step on (R179). -/
def hostCall (c : HostCall) (s : State) : Result :=
  match c with
  | .generateInterrupt n => generateInterrupt n s
  | .setPin name b => setPin name b s
  | .construct => .next State.reset
  | .loadImage offset bytes => loadImage offset bytes s
  | .writeMem a v => .next { s with mem := s.mem.write a.toNat v }
  | .writeReg r v => .next (s.setReg r v)
  | .writeSp v => .next { s with sp := v }
  | .writePc v => .next { s with pc := v }
  | .writeFlags b => .next { s with flags := Flags.unpack b }
  | .writePortByte p v => .next { s with portBytes := s.portBytes.write p.toNat v }
  | .installIn p => .next { s with inHandlers := installPort s.inHandlers p }
  | .removeIn p => .next { s with inHandlers := removePort s.inHandlers p }
  | .installOut p => .next { s with outHandlers := installPort s.outHandlers p }
  | .removeOut p => .next { s with outHandlers := removePort s.outHandlers p }
  | .setMirrorOffset v => .next { s with cfg := { s.cfg with mirrorOffset := v } }
  | .setRoRange r => .next { s with cfg := { s.cfg with roRange := r } }
  | .setSafeMode b => .next { s with cfg := { s.cfg with safeMode := b } }
  | .settleReplies rs => .next { s with replies := rs }

/-- What happens to the core, one thing at a time (R49, R81, R161): a Step with its argument, or a host
call between two Steps. -/
inductive Event where
  | step (diag : Bool)
  | host (c : HostCall)
  deriving DecidableEq, Repr

def transition (e : Event) (s : State) : Result :=
  match e with
  | .step diag => stepWith diag s
  | .host c => hostCall c s

/-! ### The trace view (R172) -/

/-- What GetCurrentInstrAsString shows (R172), without its text format. The rule lists "iteration count,
address, opcode byte, disassembly, register dump" and does not say which registers the dump holds: A, BC,
DE, HL, SP and the packed flag byte are the model's choice (log 19, DESIGN CHOICE), and so is the decoded
instruction in the place of its disassembly. -/
structure TraceRecord where
  iterations : Nat
  addr : Word
  opcode : Byte
  instr : Instr
  a : Byte
  bc : Word
  de : Word
  hl : Word
  sp : Word
  flagByte : Byte
  deriving DecidableEq, Repr

/-- The record at the instruction about to be executed; it reads the state only. -/
def traceRecord (s : State) : TraceRecord where
  iterations := s.iterations
  addr := s.pc
  opcode := memRead s s.pc
  instr := fetchInstr s.mem s.pc
  a := s.a
  bc := s.bc
  de := s.de
  hl := s.hl
  sp := s.sp
  flagByte := s.flags.pack

end Sys2Proof.Machine
end

