-- ==== Sys2Proof/Safety.lean ====
section
/-! DEFINITION. The states a run can be in, and what it means for a run to be safe. -/

namespace Sys2Proof.Machine

/-- The populated ports are listed in rising order, each once. -/
def portsRising : List Byte → Bool
  | [] => true
  | [_] => true
  | p :: q :: rest => decide (p.toNat < q.toNat) && portsRising (q :: rest)

/-- A snapshot as `snapshot()` takes it from a good state: memories in canonical form, and the fixed
padding bits of the flag byte (R19: bit 1 is 1, bits 3 and 5 are 0). -/
def Snapshot.good (x : Snapshot) : Bool :=
  x.mem.wf && x.portBytes.wfPorts && decide (x.flagByte &&& 0x2A = 0x02)

/-- The result of a Step is a length, the halt sentinel, or 0 before the first Step (R79, log 7). -/
def returnedGood (r : BitVec 16) : Bool :=
  decide (r = haltSentinel ∨ r = 0 ∨ r = 1 ∨ r = 2 ∨ r = 3)

/-- The invariant: canonical memories and port lists, good snapshots, a legal result, and, the part that
safe mode rests on, a snapshot to restore whenever a fault is pending (R169). -/
def State.inv (s : State) : Bool :=
  s.mem.wf && s.portBytes.wfPorts && portsRising s.inHandlers && portsRising s.outHandlers
    && s.snapStack.all Snapshot.good && returnedGood s.returned
    && (!s.pendingFault || !s.snapStack.isEmpty)

/-- The states that host calls and Steps lead to from reset. -/
inductive Reachable : State → Prop where
  | reset : Reachable State.reset
  | event {s t : State} (e : Event) (before : Reachable s) (h : transition e s = .next t) :
    Reachable t

/-- A safe outcome of a Step: it goes on, or it stops with a fault the spec names; it is not refused. -/
def notRefused {α φ ρ : Type} : Host.Outcome α φ ρ → Bool
  | .next _ => true
  | .fault _ => true
  | .refused _ => false

end Sys2Proof.Machine
end

