-- ==== Sys2Proof/Certificates/Slice0/Obligations.lean ====
section
/-! DEFINITION. The statements for the provers. The first part restates what the rules say of operands,
encodings and results in plain numbers, independently of the model's own definitions where it can. -/

namespace Sys2Proof.Claims

open Sys2Proof.Machine

/-! ### Encodings in numbers (R56, R57, R59, R61) -/

def byteOf (n : Nat) : Byte := BitVec.ofNat 8 n

def regNum : Reg → Nat
  | .b => 0
  | .c => 1
  | .d => 2
  | .e => 3
  | .h => 4
  | .l => 5
  | .a => 7

def pairNum : Pair → Nat
  | .bc => 0
  | .de => 1
  | .hl => 2

def spPairNum : SpPair → Nat
  | .bc => 0
  | .de => 1
  | .hl => 2
  | .sp => 3

def indexNum : IndexPair → Nat
  | .bc => 0
  | .de => 1

def condNum : Cond → Nat
  | .nz => 0
  | .z => 1
  | .nc => 2
  | .c => 3
  | .po => 4
  | .pe => 5
  | .p => 6
  | .m => 7

/-- An opcode with a 16-bit operand, low byte first. -/
def withWord (op : Nat) (v : Word) : List Byte :=
  [byteOf op, byteOf (v.toNat % 256), byteOf (v.toNat / 256)]

/-- These bytes are the instruction `i`, whatever follows them. -/
def Decodes (bytes : List Byte) (i : Instr) : Prop :=
  ∀ rest, decode (bytes ++ rest) = .ok (i, rest)

/-- A pair of PUSH or POP as a pair of LXI. -/
def widen : Pair → SpPair
  | .bc => .bc
  | .de => .de
  | .hl => .hl

/-! ### Results and flags in numbers (R59, R82) -/

/-- The number of 1 bits of a byte. -/
def ones (v : Byte) : Nat := ((List.range 8).map fun k => v.toNat / 2 ^ k % 2).sum

/-- Z, S and P are those of the result byte `r` (R82). -/
def ResultFlags (f : Flags) (r : Byte) : Prop :=
  f.z = decide (r.toNat = 0) ∧ f.s = decide (128 ≤ r.toNat) ∧ f.p = decide (ones r % 2 = 0)

/-- The condition CCC (R59). -/
def condTrue (f : Flags) : Cond → Prop
  | .nz => f.z = false
  | .z => f.z = true
  | .nc => f.cy = false
  | .c => f.cy = true
  | .po => f.p = false
  | .pe => f.p = true
  | .p => f.s = false
  | .m => f.s = true

/-! ### How a Step ends, and what an instruction leaves alone -/

/-- PC past the instruction, the cycles charged, not halted, the length returned (R77 to R79). -/
def Ended (s t : State) (len cost : Nat) : Prop :=
  t.pc = s.pc + BitVec.ofNat 16 len ∧ t.cycles = s.cycles + cost ∧ t.halted = false ∧
    t.returned = BitVec.ofNat 16 len

/-- PC at the target, the cycles charged, not halted, the length returned (R76 to R79). -/
def Jumped (s t : State) (target : Word) (len cost : Nat) : Prop :=
  t.pc = target ∧ t.cycles = s.cycles + cost ∧ t.halted = false ∧ t.returned = BitVec.ofNat 16 len

/-- Only the 8-bit registers (and how the Step ended) may differ. -/
def OnlyRegs (s t : State) : Prop :=
  t = { s with
    a := t.a, b := t.b, c := t.c, d := t.d, e := t.e, h := t.h, l := t.l
    pc := t.pc, cycles := t.cycles, halted := t.halted, returned := t.returned }

/-- Only the 8-bit registers and SP may differ. -/
def OnlyRegsSp (s t : State) : Prop :=
  t = { s with
    a := t.a, b := t.b, c := t.c, d := t.d, e := t.e, h := t.h, l := t.l, sp := t.sp
    pc := t.pc, cycles := t.cycles, halted := t.halted, returned := t.returned }

/-- Only the 8-bit registers and the flags may differ. -/
def OnlyRegsFlags (s t : State) : Prop :=
  t = { s with
    a := t.a, b := t.b, c := t.c, d := t.d, e := t.e, h := t.h, l := t.l, flags := t.flags
    pc := t.pc, cycles := t.cycles, halted := t.halted, returned := t.returned }

/-- Only A and the flags may differ. -/
def OnlyAFlags (s t : State) : Prop :=
  t = { s with
    a := t.a, flags := t.flags
    pc := t.pc, cycles := t.cycles, halted := t.halted, returned := t.returned }

/-- Only memory may differ. -/
def OnlyMem (s t : State) : Prop :=
  t = { s with
    mem := t.mem
    pc := t.pc, cycles := t.cycles, halted := t.halted, returned := t.returned }

/-- Only memory and SP may differ. -/
def OnlyMemSp (s t : State) : Prop :=
  t = { s with
    mem := t.mem, sp := t.sp
    pc := t.pc, cycles := t.cycles, halted := t.halted, returned := t.returned }

/-- Only memory and the flags may differ. -/
def OnlyMemFlags (s t : State) : Prop :=
  t = { s with
    mem := t.mem, flags := t.flags
    pc := t.pc, cycles := t.cycles, halted := t.halted, returned := t.returned }

/-- Only SP may differ. -/
def OnlySp (s t : State) : Prop :=
  t = { s with
    sp := t.sp
    pc := t.pc, cycles := t.cycles, halted := t.halted, returned := t.returned }

/-- Nothing but how the Step ended may differ. -/
def OnlyEnd (s t : State) : Prop :=
  t = { s with pc := t.pc, cycles := t.cycles, halted := t.halted, returned := t.returned }

/-! ### Memory writes (R37) -/

/-- A byte write at `a` stores to the address `x`: the primary address or its mirror. -/
def hits (cfg : CoreConfig) (a x : Word) : Bool :=
  decide (x = a ∨ cfg.mirrorOffset ≠ 0 ∧ x.toNat = a.toNat + cfg.mirrorOffset.toNat)

/-- `t`'s memory is `s`'s with the byte `v` written at `a` (and its mirror): every address. -/
def Wrote (s t : State) (a : Word) (v : Byte) : Prop :=
  ∀ x : Word, memRead t x = if hits s.cfg a x then v else memRead s x

/-- The same for two byte writes, `v` at `a` and then `w` at `b`. -/
def WroteTwo (s t : State) (a : Word) (v : Byte) (b : Word) (w : Byte) : Prop :=
  ∀ x : Word, memRead t x =
    if hits s.cfg b x then w else if hits s.cfg a x then v else memRead s x

/-- The address is in RO_RANGE; a mirror address is passed as a number. -/
def inRoRange (cfg : CoreConfig) (x : Nat) : Prop :=
  ∃ lo hi, cfg.roRange = some (lo, hi) ∧ lo.toNat ≤ x ∧ x ≤ hi.toNat

/-- The instruction stops with this fault and leaves this state. -/
def StopsWith (i : Instr) (s : State) (cause : FaultCause) (left : State) : Prop :=
  ∃ f, exec i s = .fault f ∧ f.cause = cause ∧ f.left = left

/-- How an instruction whose last effects are the byte writes `v` at `a` and `w` at `b`, in this order,
stops: on the first write nothing is written, on the second the first byte is (R154). -/
def StopsInTwoWrites (i : Instr) (s : State) (a : Word) (v : Byte) (b : Word) : Prop :=
  (∀ cause, writeFault s.cfg a = some cause → StopsWith i s cause { s with halted := false }) ∧
  (∀ cause, writeFault s.cfg a = none → writeFault s.cfg b = some cause →
    ∃ left, StopsWith i s cause left ∧ Wrote s left a v ∧
      left = { s with halted := false, mem := left.mem })

/-! ### Instruction forms: the bytes, the operands and the cycles the rules give -/

/-- MOV r,r; MOV r,M; MVI r; LDA; LDAX: the bytes, the destination, the value, the cycles. -/
def loadForm (s : State) : Instr → Option (List Byte × Reg × Byte × Nat)
  | .movRR dst src => some ([byteOf (64 + 8 * regNum dst + regNum src)], dst, s.reg src, 5)
  | .movRM dst => some ([byteOf (70 + 8 * regNum dst)], dst, memRead s s.hl, 7)
  | .mviR dst v => some ([byteOf (6 + 8 * regNum dst), v], dst, v, 7)
  | .lda a => some (withWord 0x3A a, .a, memRead s a, 13)
  | .ldax p => some ([byteOf (10 + 16 * indexNum p)], .a, memRead s (s.indexPair p), 7)
  | .movMR _ | .mviM _ | .lxi _ _ | .sta _ | .lhld _ | .shld _ | .stax _ | .xchg | .addR _ => none
  | .addM | .adcR _ | .adcM | .subR _ | .subM | .sbbR _ | .sbbM | .anaR _ | .anaM | .xraR _ => none
  | .xraM | .oraR _ | .oraM | .cmpR _ | .cmpM | .adi _ | .aci _ | .sui _ | .sbi _ | .ani _ => none
  | .xri _ | .ori _ | .cpi _ | .inrR _ | .inrM | .dcrR _ | .dcrM | .inx _ | .dcx _ | .dad _ => none
  | .daa | .rlc | .rrc | .ral | .rar | .cma | .stc | .cmc | .jmp _ | .jcc _ _ | .call _ => none
  | .ccc _ _ | .ret | .rcc _ | .rst _ | .pchl | .pushRp _ | .pushPsw | .popRp _ | .popPsw => none
  | .xthl | .sphl | .inp _ | .outp _ | .ei | .di | .hlt | .nop | .illegal _ => none

/-- MOV M,r; MVI M; STA; STAX: the bytes, the address, the byte stored, the cycles. -/
def storeForm (s : State) : Instr → Option (List Byte × Word × Byte × Nat)
  | .movMR src => some ([byteOf (112 + regNum src)], s.hl, s.reg src, 7)
  | .mviM v => some ([0x36, v], s.hl, v, 10)
  | .sta a => some (withWord 0x32 a, a, s.a, 13)
  | .stax p => some ([byteOf (2 + 16 * indexNum p)], s.indexPair p, s.a, 7)
  | .movRR _ _ | .movRM _ | .mviR _ _ | .lxi _ _ | .lda _ | .lhld _ | .shld _ | .ldax _ | .xchg => none
  | .addR _ | .addM | .adcR _ | .adcM | .subR _ | .subM | .sbbR _ | .sbbM | .anaR _ | .anaM => none
  | .xraR _ | .xraM | .oraR _ | .oraM | .cmpR _ | .cmpM | .adi _ | .aci _ | .sui _ | .sbi _ => none
  | .ani _ | .xri _ | .ori _ | .cpi _ | .inrR _ | .inrM | .dcrR _ | .dcrM | .inx _ | .dcx _ => none
  | .dad _ | .daa | .rlc | .rrc | .ral | .rar | .cma | .stc | .cmc | .jmp _ | .jcc _ _ | .call _ => none
  | .ccc _ _ | .ret | .rcc _ | .rst _ | .pchl | .pushRp _ | .pushPsw | .popRp _ | .popPsw => none
  | .xthl | .sphl | .inp _ | .outp _ | .ei | .di | .hlt | .nop | .illegal _ => none

/-- The 16-bit value of a high and a low byte (R8). -/
def wordOf (hi lo : Byte) : Word := BitVec.ofNat 16 (hi.toNat * 256 + lo.toNat)

/-- LXI; LHLD; INX; DCX; POP rp: the bytes, the pair written, its value, the cycles, and whether
two bytes are popped. The sums are modulo 2^16. -/
def pairForm (s : State) : Instr → Option (List Byte × SpPair × Word × Nat × Bool)
  | .lxi p v => some (withWord (1 + 16 * spPairNum p) v, p, v, 10, false)
  | .lhld a => some (withWord 0x2A a, .hl, wordOf (memRead s (a + 1)) (memRead s a), 16, false)
  | .inx p => some ([byteOf (3 + 16 * spPairNum p)], p, s.spPair p + 1, 5, false)
  | .dcx p => some ([byteOf (11 + 16 * spPairNum p)], p, s.spPair p - 1, 5, false)
  | .popRp p =>
    some ([byteOf (193 + 16 * pairNum p)], widen p,
      wordOf (memRead s (s.sp + 1)) (memRead s s.sp), 10, true)
  | .movRR _ _ | .movRM _ | .movMR _ | .mviR _ _ | .mviM _ | .lda _ | .sta _ | .shld _ | .ldax _ => none
  | .stax _ | .xchg | .addR _ | .addM | .adcR _ | .adcM | .subR _ | .subM | .sbbR _ | .sbbM => none
  | .anaR _ | .anaM | .xraR _ | .xraM | .oraR _ | .oraM | .cmpR _ | .cmpM | .adi _ | .aci _ => none
  | .sui _ | .sbi _ | .ani _ | .xri _ | .ori _ | .cpi _ | .inrR _ | .inrM | .dcrR _ | .dcrM => none
  | .dad _ | .daa | .rlc | .rrc | .ral | .rar | .cma | .stc | .cmc | .jmp _ | .jcc _ _ | .call _ => none
  | .ccc _ _ | .ret | .rcc _ | .rst _ | .pchl | .pushRp _ | .pushPsw | .popPsw | .xthl | .sphl => none
  | .inp _ | .outp _ | .ei | .di | .hlt | .nop | .illegal _ => none

/-- ADD, ADC (r and M), ADI, ACI: the bytes, the operand, the carry in, the cycles. -/
def addForm (s : State) : Instr → Option (List Byte × Byte × Bool × Nat)
  | .addR src => some ([byteOf (128 + regNum src)], s.reg src, false, 4)
  | .addM => some ([0x86], memRead s s.hl, false, 7)
  | .adi v => some ([0xC6, v], v, false, 7)
  | .adcR src => some ([byteOf (136 + regNum src)], s.reg src, s.flags.cy, 4)
  | .adcM => some ([0x8E], memRead s s.hl, s.flags.cy, 7)
  | .aci v => some ([0xCE, v], v, s.flags.cy, 7)
  | .movRR _ _ | .movRM _ | .movMR _ | .mviR _ _ | .mviM _ | .lxi _ _ | .lda _ | .sta _ => none
  | .lhld _ | .shld _ | .ldax _ | .stax _ | .xchg | .subR _ | .subM | .sbbR _ | .sbbM | .anaR _ => none
  | .anaM | .xraR _ | .xraM | .oraR _ | .oraM | .cmpR _ | .cmpM | .sui _ | .sbi _ | .ani _ => none
  | .xri _ | .ori _ | .cpi _ | .inrR _ | .inrM | .dcrR _ | .dcrM | .inx _ | .dcx _ | .dad _ => none
  | .daa | .rlc | .rrc | .ral | .rar | .cma | .stc | .cmc | .jmp _ | .jcc _ _ | .call _ => none
  | .ccc _ _ | .ret | .rcc _ | .rst _ | .pchl | .pushRp _ | .pushPsw | .popRp _ | .popPsw => none
  | .xthl | .sphl | .inp _ | .outp _ | .ei | .di | .hlt | .nop | .illegal _ => none

/-- SUB, SBB, CMP (r and M), SUI, SBI, CPI: the bytes, the operand, the borrow in, whether A is kept,
the cycles. -/
def subForm (s : State) : Instr → Option (List Byte × Byte × Bool × Bool × Nat)
  | .subR src => some ([byteOf (144 + regNum src)], s.reg src, false, false, 4)
  | .subM => some ([0x96], memRead s s.hl, false, false, 7)
  | .sui v => some ([0xD6, v], v, false, false, 7)
  | .sbbR src => some ([byteOf (152 + regNum src)], s.reg src, s.flags.cy, false, 4)
  | .sbbM => some ([0x9E], memRead s s.hl, s.flags.cy, false, 7)
  | .sbi v => some ([0xDE, v], v, s.flags.cy, false, 7)
  | .cmpR src => some ([byteOf (184 + regNum src)], s.reg src, false, true, 4)
  | .cmpM => some ([0xBE], memRead s s.hl, false, true, 7)
  | .cpi v => some ([0xFE, v], v, false, true, 7)
  | .movRR _ _ | .movRM _ | .movMR _ | .mviR _ _ | .mviM _ | .lxi _ _ | .lda _ | .sta _ => none
  | .lhld _ | .shld _ | .ldax _ | .stax _ | .xchg | .addR _ | .addM | .adcR _ | .adcM | .anaR _ => none
  | .anaM | .xraR _ | .xraM | .oraR _ | .oraM | .adi _ | .aci _ | .ani _ | .xri _ | .ori _ => none
  | .inrR _ | .inrM | .dcrR _ | .dcrM | .inx _ | .dcx _ | .dad _ | .daa | .rlc | .rrc | .ral => none
  | .rar | .cma | .stc | .cmc | .jmp _ | .jcc _ _ | .call _ | .ccc _ _ | .ret | .rcc _ | .rst _ => none
  | .pchl | .pushRp _ | .pushPsw | .popRp _ | .popPsw | .xthl | .sphl | .inp _ | .outp _ | .ei => none
  | .di | .hlt | .nop | .illegal _ => none

/-- ANA, XRA, ORA (r and M), ANI, XRI, ORI: the bytes, the result, the cycles. -/
def logicForm (s : State) : Instr → Option (List Byte × Byte × Nat)
  | .anaR src => some ([byteOf (160 + regNum src)], s.a &&& s.reg src, 4)
  | .anaM => some ([0xA6], s.a &&& memRead s s.hl, 7)
  | .ani v => some ([0xE6, v], s.a &&& v, 7)
  | .xraR src => some ([byteOf (168 + regNum src)], s.a ^^^ s.reg src, 4)
  | .xraM => some ([0xAE], s.a ^^^ memRead s s.hl, 7)
  | .xri v => some ([0xEE, v], s.a ^^^ v, 7)
  | .oraR src => some ([byteOf (176 + regNum src)], s.a ||| s.reg src, 4)
  | .oraM => some ([0xB6], s.a ||| memRead s s.hl, 7)
  | .ori v => some ([0xF6, v], s.a ||| v, 7)
  | .movRR _ _ | .movRM _ | .movMR _ | .mviR _ _ | .mviM _ | .lxi _ _ | .lda _ | .sta _ => none
  | .lhld _ | .shld _ | .ldax _ | .stax _ | .xchg | .addR _ | .addM | .adcR _ | .adcM | .subR _ => none
  | .subM | .sbbR _ | .sbbM | .cmpR _ | .cmpM | .adi _ | .aci _ | .sui _ | .sbi _ | .cpi _ => none
  | .inrR _ | .inrM | .dcrR _ | .dcrM | .inx _ | .dcx _ | .dad _ | .daa | .rlc | .rrc | .ral => none
  | .rar | .cma | .stc | .cmc | .jmp _ | .jcc _ _ | .call _ | .ccc _ _ | .ret | .rcc _ | .rst _ => none
  | .pchl | .pushRp _ | .pushPsw | .popRp _ | .popPsw | .xthl | .sphl | .inp _ | .outp _ | .ei => none
  | .di | .hlt | .nop | .illegal _ => none

/-- RLC, RRC, RAL, RAR: the byte, bit `k` of the new A, the new CY. -/
def rotateForm (s : State) : Instr → Option (List Byte × (Nat → Bool) × Bool)
  | .rlc => some ([0x07], fun k => s.a.getLsbD ((k + 7) % 8), s.a.getLsbD 7)
  | .rrc => some ([0x0F], fun k => s.a.getLsbD ((k + 1) % 8), s.a.getLsbD 0)
  | .ral => some ([0x17], fun k => if k = 0 then s.flags.cy else s.a.getLsbD (k - 1), s.a.getLsbD 7)
  | .rar => some ([0x1F], fun k => if k = 7 then s.flags.cy else s.a.getLsbD (k + 1), s.a.getLsbD 0)
  | .movRR _ _ | .movRM _ | .movMR _ | .mviR _ _ | .mviM _ | .lxi _ _ | .lda _ | .sta _ => none
  | .lhld _ | .shld _ | .ldax _ | .stax _ | .xchg | .addR _ | .addM | .adcR _ | .adcM | .subR _ => none
  | .subM | .sbbR _ | .sbbM | .anaR _ | .anaM | .xraR _ | .xraM | .oraR _ | .oraM | .cmpR _ => none
  | .cmpM | .adi _ | .aci _ | .sui _ | .sbi _ | .ani _ | .xri _ | .ori _ | .cpi _ | .inrR _ => none
  | .inrM | .dcrR _ | .dcrM | .inx _ | .dcx _ | .dad _ | .daa | .cma | .stc | .cmc | .jmp _ => none
  | .jcc _ _ | .call _ | .ccc _ _ | .ret | .rcc _ | .rst _ | .pchl | .pushRp _ | .pushPsw => none
  | .popRp _ | .popPsw | .xthl | .sphl | .inp _ | .outp _ | .ei | .di | .hlt | .nop | .illegal _ => none

/-- PUSH rp and PUSH PSW: the byte, the high and the low byte pushed. -/
def pushForm (s : State) : Instr → Option (List Byte × Byte × Byte)
  | .pushRp .bc => some ([0xC5], s.b, s.c)
  | .pushRp .de => some ([0xD5], s.d, s.e)
  | .pushRp .hl => some ([0xE5], s.h, s.l)
  | .pushPsw =>
    some ([0xF5], s.a,
      byteOf (128 * s.flags.s.toNat + 64 * s.flags.z.toNat + 16 * s.flags.ac.toNat
        + 4 * s.flags.p.toNat + 2 + s.flags.cy.toNat))
  | .movRR _ _ | .movRM _ | .movMR _ | .mviR _ _ | .mviM _ | .lxi _ _ | .lda _ | .sta _ => none
  | .lhld _ | .shld _ | .ldax _ | .stax _ | .xchg | .addR _ | .addM | .adcR _ | .adcM | .subR _ => none
  | .subM | .sbbR _ | .sbbM | .anaR _ | .anaM | .xraR _ | .xraM | .oraR _ | .oraM | .cmpR _ => none
  | .cmpM | .adi _ | .aci _ | .sui _ | .sbi _ | .ani _ | .xri _ | .ori _ | .cpi _ | .inrR _ => none
  | .inrM | .dcrR _ | .dcrM | .inx _ | .dcx _ | .dad _ | .daa | .rlc | .rrc | .ral | .rar | .cma => none
  | .stc | .cmc | .jmp _ | .jcc _ _ | .call _ | .ccc _ _ | .ret | .rcc _ | .rst _ | .pchl => none
  | .popRp _ | .popPsw | .xthl | .sphl | .inp _ | .outp _ | .ei | .di | .hlt | .nop | .illegal _ => none

/-- CALL (where it is not intercepted), Ccc and RST: the bytes, whether it calls, the target, the cycles
of a call. -/
def callForm (s : State) : Instr → Option (List Byte × Prop × Word × Nat)
  | .call a => some (withWord 0xCD a, s.diagMode = false ∨ a ≠ 0x0005 ∧ a ≠ 0x0000, a, 17)
  | .ccc cc a => some (withWord (196 + 8 * condNum cc) a, condTrue s.flags cc, a, 17)
  | .rst n => some ([byteOf (199 + 8 * n.toNat)], True, BitVec.ofNat 16 (8 * n.toNat), 11)
  | .movRR _ _ | .movRM _ | .movMR _ | .mviR _ _ | .mviM _ | .lxi _ _ | .lda _ | .sta _ => none
  | .lhld _ | .shld _ | .ldax _ | .stax _ | .xchg | .addR _ | .addM | .adcR _ | .adcM | .subR _ => none
  | .subM | .sbbR _ | .sbbM | .anaR _ | .anaM | .xraR _ | .xraM | .oraR _ | .oraM | .cmpR _ => none
  | .cmpM | .adi _ | .aci _ | .sui _ | .sbi _ | .ani _ | .xri _ | .ori _ | .cpi _ | .inrR _ => none
  | .inrM | .dcrR _ | .dcrM | .inx _ | .dcx _ | .dad _ | .daa | .rlc | .rrc | .ral | .rar | .cma => none
  | .stc | .cmc | .jmp _ | .jcc _ _ | .ret | .rcc _ | .pchl | .pushRp _ | .pushPsw | .popRp _ => none
  | .popPsw | .xthl | .sphl | .inp _ | .outp _ | .ei | .di | .hlt | .nop | .illegal _ => none

/-- The instructions that transfer control, in this state (R76), or stop it (R77, R171). -/
def setsPc (s : State) : Instr → Prop
  | .jmp _ => True
  | .jcc cc _ => condTrue s.flags cc
  | .call a => s.diagMode = false ∨ a ≠ 0x0005
  | .ccc cc _ => condTrue s.flags cc
  | .ret => True
  | .rcc cc => condTrue s.flags cc
  | .rst _ => True
  | .pchl => True
  | .hlt => True
  | .movRR _ _ | .movRM _ | .movMR _ | .mviR _ _ | .mviM _ | .lxi _ _ | .lda _ | .sta _ => False
  | .lhld _ | .shld _ | .ldax _ | .stax _ | .xchg | .addR _ | .addM | .adcR _ | .adcM | .subR _ => False
  | .subM | .sbbR _ | .sbbM | .anaR _ | .anaM | .xraR _ | .xraM | .oraR _ | .oraM | .cmpR _ => False
  | .cmpM | .adi _ | .aci _ | .sui _ | .sbi _ | .ani _ | .xri _ | .ori _ | .cpi _ | .inrR _ => False
  | .inrM | .dcrR _ | .dcrM | .inx _ | .dcx _ | .dad _ | .daa | .rlc | .rrc | .ral | .rar | .cma => False
  | .stc | .cmc | .pushRp _ | .pushPsw | .popRp _ | .popPsw | .xthl | .sphl | .inp _ | .outp _ => False
  | .ei | .di | .nop | .illegal _ => False

/-- The instructions that write memory (the list of R151, code 2). -/
def writesMemory : Instr → Bool
  | .movMR _ => true
  | .mviM _ => true
  | .sta _ => true
  | .stax _ => true
  | .shld _ => true
  | .inrM => true
  | .dcrM => true
  | .pushRp _ => true
  | .pushPsw => true
  | .xthl => true
  | .call _ => true
  | .ccc _ _ => true
  | .rst _ => true
  | .movRR _ _ | .movRM _ | .mviR _ _ | .lxi _ _ | .lda _ | .lhld _ | .ldax _ | .xchg | .addR _ => false
  | .addM | .adcR _ | .adcM | .subR _ | .subM | .sbbR _ | .sbbM | .anaR _ | .anaM | .xraR _ => false
  | .xraM | .oraR _ | .oraM | .cmpR _ | .cmpM | .adi _ | .aci _ | .sui _ | .sbi _ | .ani _ => false
  | .xri _ | .ori _ | .cpi _ | .inrR _ | .dcrR _ | .inx _ | .dcx _ | .dad _ | .daa | .rlc | .rrc => false
  | .ral | .rar | .cma | .stc | .cmc | .jmp _ | .jcc _ _ | .ret | .rcc _ | .pchl | .popRp _ => false
  | .popPsw | .sphl | .inp _ | .outp _ | .ei | .di | .hlt | .nop | .illegal _ => false

/-- The instructions that write SP (the list of R16). -/
def writesSp : Instr → Bool
  | .lxi p _ => decide (p = .sp)
  | .inx p => decide (p = .sp)
  | .dcx p => decide (p = .sp)
  | .sphl => true
  | .pushRp _ => true
  | .pushPsw => true
  | .popRp _ => true
  | .popPsw => true
  | .call _ => true
  | .ccc _ _ => true
  | .ret => true
  | .rcc _ => true
  | .rst _ => true
  | .movRR _ _ | .movRM _ | .movMR _ | .mviR _ _ | .mviM _ | .lda _ | .sta _ | .lhld _ | .shld _ => false
  | .ldax _ | .stax _ | .xchg | .addR _ | .addM | .adcR _ | .adcM | .subR _ | .subM | .sbbR _ => false
  | .sbbM | .anaR _ | .anaM | .xraR _ | .xraM | .oraR _ | .oraM | .cmpR _ | .cmpM | .adi _ => false
  | .aci _ | .sui _ | .sbi _ | .ani _ | .xri _ | .ori _ | .cpi _ | .inrR _ | .inrM | .dcrR _ => false
  | .dcrM | .dad _ | .daa | .rlc | .rrc | .ral | .rar | .cma | .stc | .cmc | .jmp _ | .jcc _ _ => false
  | .pchl | .xthl | .inp _ | .outp _ | .ei | .di | .hlt | .nop | .illegal _ => false

/-- Whether an instruction may write Z, S, P and AC (first), and CY (second): the table of R21. -/
def writesFlags : Instr → Bool × Bool
  | .addR _ | .addM | .adi _ | .subR _ | .subM | .sui _ => (true, true)
  | .cmpR _ | .cmpM | .cpi _ => (true, true)
  | .adcR _ | .adcM | .aci _ | .sbbR _ | .sbbM | .sbi _ => (true, true)
  | .inrR _ | .inrM | .dcrR _ | .dcrM => (true, false)
  | .anaR _ | .anaM | .ani _ | .xraR _ | .xraM | .xri _ | .oraR _ | .oraM | .ori _ => (true, true)
  | .daa => (true, true)
  | .dad _ => (false, true)
  | .rlc | .rrc | .ral | .rar => (false, true)
  | .stc | .cmc => (false, true)
  | .popPsw => (true, true)
  | .movRR _ _ | .movRM _ | .movMR _ | .mviR _ _ | .mviM _ | .lxi _ _ | .lda _ | .sta _ => (false, false)
  | .lhld _ | .shld _ | .ldax _ | .stax _ | .xchg | .inx _ | .dcx _ | .cma | .jmp _ | .jcc _ _ => (false, false)
  | .call _ | .ccc _ _ | .ret | .rcc _ | .rst _ | .pchl | .pushRp _ | .pushPsw | .popRp _ => (false, false)
  | .xthl | .sphl | .inp _ | .outp _ | .ei | .di | .hlt | .nop | .illegal _ => (false, false)

/-! ### Comparing outcomes -/

/-- Change the state an outcome carries, a next state or the state a fault leaves. -/
def mapLeft (g : State → State) : Fault → Fault
  | .invalidInstruction pc0 op s => .invalidInstruction pc0 op (g s)
  | .readOnlyWrite a s => .readOnlyWrite a (g s)
  | .mirrorOutOfRange a s => .mirrorOutOfRange a (g s)
  | .unimplementedInPort p s => .unimplementedInPort p (g s)
  | .unimplementedOutPort p s => .unimplementedOutPort p (g s)

def mapState (g : State → State) : Result → Result
  | .next s => .next (g s)
  | .fault f => .fault (mapLeft g f)
  | .refused r => .refused r

/-- Forget the pins. -/
def hidePins (s : State) : State := { s with inte := false, hold := false, wait := false }

/-- Forget the counters. -/
def hideCounters (s : State) : State := { s with cycles := 0, iterations := 0 }

/-- Execute an instruction `n` times, as long as it goes on. -/
def execTimes (i : Instr) : Nat → State → Result
  | 0, s => .next s
  | n + 1, s => andThen (exec i s) (execTimes i n)

/-- The two-digit BCD byte of a number below 100. -/
def bcd (n : Nat) : Byte := byteOf (n / 10 * 16 + n % 10)

/-- The three bytes at PC. -/
def bytesAtPc (s : State) : List Byte :=
  [memRead s s.pc, memRead s (s.pc + 1), memRead s (s.pc + 2)]

end Sys2Proof.Claims

open Sys2Proof Sys2Proof.Machine Sys2Proof.Claims

/-! ## Data transfer -/

/-- R88, R89, R91, R94, R98: the loads of an 8-bit register. Only the destination is written. -/
def Obligations.RegisterLoadsWriteOnlyTheirDestination : Prop :=
  ∀ s i bytes dst v cost, loadForm s i = some (bytes, dst, v, cost) →
    Decodes bytes i ∧
    ∃ t, exec i s = .next t ∧ t.reg dst = v ∧ (∀ q, q ≠ dst → t.reg q = s.reg q) ∧
      OnlyRegs s t ∧ Ended s t bytes.length cost

/-- R90, R92, R95, R99: the byte stores, and where they fault. `writeFault` is the check of MemWrite; its
clauses are MemoryWriteChecksBothTargets. -/
def Obligations.ByteStoresWriteOneByte : Prop :=
  ∀ s i bytes a v cost, storeForm s i = some (bytes, a, v, cost) →
    Decodes bytes i ∧
    (writeFault s.cfg a = none →
      ∃ t, exec i s = .next t ∧ Wrote s t a v ∧ OnlyMem s t ∧ Ended s t bytes.length cost) ∧
    (∀ cause, writeFault s.cfg a = some cause → StopsWith i s cause { s with halted := false })

/-- R93, R96, R111, R112, R141, R144: LXI, LHLD, INX, DCX, POP rp, SPHL write one pair, in numbers
modulo 2^16, and no flag. POP also adds 2 to SP. -/
def Obligations.PairLoadsWriteOnePair : Prop :=
  (∀ s i bytes p v cost pops, pairForm s i = some (bytes, p, v, cost, pops) →
    Decodes bytes i ∧
    ∃ t, exec i s = .next t ∧ t.spPair p = v ∧
      (∀ q, q ≠ p → q ≠ .sp → t.spPair q = s.spPair q) ∧
      (p ≠ .sp → t.sp = if pops then s.sp + 2 else s.sp) ∧ t.a = s.a ∧
      OnlyRegsSp s t ∧ Ended s t bytes.length cost) ∧
  (∀ s, Decodes [0xF9] .sphl ∧
    ∃ t, exec .sphl s = .next t ∧ t.sp = wordOf s.h s.l ∧ OnlySp s t ∧ Ended s t 1 5)

/-- R97: SHLD stores L and then H; a fault on the second byte leaves the first written. -/
def Obligations.ShldStoresLowThenHigh : Prop :=
  ∀ s a, Decodes (withWord 0x22 a) (.shld a) ∧
    (writeFault s.cfg a = none → writeFault s.cfg (a + 1) = none →
      ∃ t, exec (.shld a) s = .next t ∧ WroteTwo s t a s.l (a + 1) s.h ∧ OnlyMem s t ∧
        Ended s t 3 16) ∧
    StopsInTwoWrites (.shld a) s a s.l (a + 1)

/-- R100: XCHG. -/
def Obligations.XchgExchangesDeAndHl : Prop :=
  Decodes [0xEB] .xchg ∧
  ∀ s, ∃ t, exec .xchg s = .next t ∧ t.d = s.h ∧ t.e = s.l ∧ t.h = s.d ∧ t.l = s.e ∧
    t.a = s.a ∧ t.b = s.b ∧ t.c = s.c ∧ OnlyRegs s t ∧ Ended s t 1 4

/-! ## Arithmetic -/

/-- R101 to R104: the additions, in numbers. -/
def Obligations.AdditionsWriteSumAndFlags : Prop :=
  ∀ s i bytes v cin cost, addForm s i = some (bytes, v, cin, cost) →
    Decodes bytes i ∧
    ∃ t, exec i s = .next t ∧
      t.a.toNat = (s.a.toNat + v.toNat + cin.toNat) % 256 ∧
      t.flags.cy = decide (255 < s.a.toNat + v.toNat + cin.toNat) ∧
      t.flags.ac = decide (15 < s.a.toNat % 16 + v.toNat % 16 + cin.toNat) ∧
      ResultFlags t.flags t.a ∧ OnlyAFlags s t ∧ Ended s t bytes.length cost

/-- R105 to R108, R121, R122: the subtractions and compares, in numbers, for both values of the parameter
AC_SUB_RULE (which of them is the default is the spec's decision D3, and is not used). -/
def Obligations.SubtractionsWriteDifferenceAndFlags : Prop :=
  ∀ s i bytes v bin keeps cost, subForm s i = some (bytes, v, bin, keeps, cost) →
    Decodes bytes i ∧
    ∃ t, ∃ r : Byte, exec i s = .next t ∧
      r.toNat = (s.a.toNat + 256 - v.toNat - bin.toNat) % 256 ∧
      t.a = (if keeps then s.a else r) ∧
      t.flags.cy = decide (s.a.toNat < v.toNat + bin.toNat) ∧
      (s.cfg.acSubRule = .halfBorrow →
        t.flags.ac = decide (s.a.toNat % 16 < v.toNat % 16 + bin.toNat)) ∧
      (s.cfg.acSubRule = .intelComplement →
        t.flags.ac = decide (v.toNat % 16 + bin.toNat ≤ s.a.toNat % 16)) ∧
      ResultFlags t.flags r ∧ OnlyAFlags s t ∧ Ended s t bytes.length cost

/-- R109: INR of a register and of memory. CY is kept. -/
def Obligations.IncrementsKeepCarry : Prop :=
  (∀ s dst, Decodes [byteOf (4 + 8 * regNum dst)] (.inrR dst) ∧
    ∃ t, exec (.inrR dst) s = .next t ∧
      (t.reg dst).toNat = ((s.reg dst).toNat + 1) % 256 ∧ (∀ q, q ≠ dst → t.reg q = s.reg q) ∧
      t.flags.cy = s.flags.cy ∧ t.flags.ac = decide ((s.reg dst).toNat % 16 = 15) ∧
      ResultFlags t.flags (t.reg dst) ∧ OnlyRegsFlags s t ∧ Ended s t 1 5) ∧
  (∀ s, Decodes [0x34] .inrM ∧
    (writeFault s.cfg s.hl = none → ∃ t, ∃ r : Byte, exec .inrM s = .next t ∧
      r.toNat = ((memRead s s.hl).toNat + 1) % 256 ∧ Wrote s t s.hl r ∧
      t.flags.cy = s.flags.cy ∧ t.flags.ac = decide ((memRead s s.hl).toNat % 16 = 15) ∧
      ResultFlags t.flags r ∧ OnlyMemFlags s t ∧ Ended s t 1 10) ∧
    (∀ cause, writeFault s.cfg s.hl = some cause →
      StopsWith .inrM s cause { s with halted := false }))

/-- R110: DCR of a register and of memory, for both AC rules. CY is kept. -/
def Obligations.DecrementsKeepCarry : Prop :=
  (∀ s dst, Decodes [byteOf (5 + 8 * regNum dst)] (.dcrR dst) ∧
    ∃ t, exec (.dcrR dst) s = .next t ∧
      (t.reg dst).toNat = ((s.reg dst).toNat + 255) % 256 ∧ (∀ q, q ≠ dst → t.reg q = s.reg q) ∧
      t.flags.cy = s.flags.cy ∧
      (s.cfg.acSubRule = .halfBorrow → t.flags.ac = decide ((s.reg dst).toNat % 16 = 0)) ∧
      (s.cfg.acSubRule = .intelComplement → t.flags.ac = decide ((s.reg dst).toNat % 16 ≠ 0)) ∧
      ResultFlags t.flags (t.reg dst) ∧ OnlyRegsFlags s t ∧ Ended s t 1 5) ∧
  (∀ s, Decodes [0x35] .dcrM ∧
    (writeFault s.cfg s.hl = none → ∃ t, ∃ r : Byte, exec .dcrM s = .next t ∧
      r.toNat = ((memRead s s.hl).toNat + 255) % 256 ∧ Wrote s t s.hl r ∧
      t.flags.cy = s.flags.cy ∧
      (s.cfg.acSubRule = .halfBorrow → t.flags.ac = decide ((memRead s s.hl).toNat % 16 = 0)) ∧
      (s.cfg.acSubRule = .intelComplement → t.flags.ac = decide ((memRead s s.hl).toNat % 16 ≠ 0)) ∧
      ResultFlags t.flags r ∧ OnlyMemFlags s t ∧ Ended s t 1 10) ∧
    (∀ cause, writeFault s.cfg s.hl = some cause →
      StopsWith .dcrM s cause { s with halted := false }))

/-- R113: DAD, in numbers; only CY of the flags is written. -/
def Obligations.DadAddsPairToHl : Prop :=
  ∀ s p, Decodes [byteOf (9 + 16 * spPairNum p)] (.dad p) ∧
    ∃ t, exec (.dad p) s = .next t ∧
      t.hl.toNat = (s.hl.toNat + (s.spPair p).toNat) % 65536 ∧
      t.flags = { s.flags with cy := decide (65535 < s.hl.toNat + (s.spPair p).toNat) } ∧
      t.a = s.a ∧ t.b = s.b ∧ t.c = s.c ∧ t.d = s.d ∧ t.e = s.e ∧
      OnlyRegsFlags s t ∧ Ended s t 1 10

/-- DAA (43_arithmetic.md section 4, decisions D4 and D5), in numbers: the low correction `k` is 6 or 0,
the high correction is 0x60 or 0. -/
def Obligations.DaaCorrectsInTwoSteps : Prop :=
  Decodes [0x27] .daa ∧
  ∀ s, ∃ t, ∃ k a1 : Nat, exec .daa s = .next t ∧
    k = (if 9 < s.a.toNat % 16 ∨ s.flags.ac = true then 6 else 0) ∧
    a1 = (s.a.toNat + k) % 256 ∧
    t.flags.ac = decide (15 < s.a.toNat % 16 + k) ∧
    (9 < a1 / 16 ∨ 9 < s.a.toNat / 16 ∨ s.flags.cy = true →
      t.a.toNat = (a1 + 96) % 256 ∧ t.flags.cy = true) ∧
    (¬(9 < a1 / 16 ∨ 9 < s.a.toNat / 16 ∨ s.flags.cy = true) →
      t.a.toNat = a1 ∧ t.flags.cy = false) ∧
    ResultFlags t.flags t.a ∧ OnlyAFlags s t ∧ Ended s t 1 4

/-- What DAA is for: after an ADD of two two-digit BCD bytes it leaves the BCD sum modulo 100, and CY
tells whether the sum reached 100. -/
def Obligations.AddThenDaaAddsDecimals : Prop :=
  ∀ s x y, x < 100 → y < 100 → s.a = bcd x → s.b = bcd y →
    ∃ t u, exec (.addR .b) s = .next t ∧ exec .daa t = .next u ∧
      u.a = bcd ((x + y) % 100) ∧ u.flags.cy = decide (100 ≤ x + y)

/-! ## Logical, rotate, carry -/

/-- R115 to R120: AND, XOR, OR clear CY and AC and set Z, S, P from the result. -/
def Obligations.LogicalOperationsClearCarries : Prop :=
  ∀ s i bytes r cost, logicForm s i = some (bytes, r, cost) →
    Decodes bytes i ∧
    ∃ t, exec i s = .next t ∧ t.a = r ∧ t.flags.cy = false ∧ t.flags.ac = false ∧
      ResultFlags t.flags r ∧ OnlyAFlags s t ∧ Ended s t bytes.length cost

/-- R123 to R126: the rotates, bit by bit; only CY of the flags is written. -/
def Obligations.RotatesMoveEachBit : Prop :=
  ∀ s i bytes bit cy, rotateForm s i = some (bytes, bit, cy) →
    Decodes bytes i ∧
    ∃ t, exec i s = .next t ∧ (∀ k, k < 8 → t.a.getLsbD k = bit k) ∧
      t.flags = { s.flags with cy := cy } ∧ OnlyAFlags s t ∧ Ended s t 1 4

/-- Nine RALs, or nine RARs, give A and CY back (44_logical.md, RAL and RAR: a 9-bit rotate). -/
def Obligations.NineRotationsThroughCarryRestore : Prop :=
  ∀ s i, i = .ral ∨ i = .rar →
    ∃ t, execTimes i 9 s = .next t ∧ t.a = s.a ∧ t.flags = s.flags

/-- R127 to R129: CMA, STC, CMC. -/
def Obligations.ComplementAndCarryInstructions : Prop :=
  (Decodes [0x2F] .cma ∧ ∀ s, ∃ t, exec .cma s = .next t ∧ t.a.toNat = 255 - s.a.toNat ∧
    t.flags = s.flags ∧ OnlyAFlags s t ∧ Ended s t 1 4) ∧
  (Decodes [0x37] .stc ∧ ∀ s, ∃ t, exec .stc s = .next t ∧ t.a = s.a ∧
    t.flags = { s.flags with cy := true } ∧ OnlyAFlags s t ∧ Ended s t 1 4) ∧
  (Decodes [0x3F] .cmc ∧ ∀ s, ∃ t, exec .cmc s = .next t ∧ t.a = s.a ∧
    t.flags = { s.flags with cy := !s.flags.cy } ∧ OnlyAFlags s t ∧ Ended s t 1 4)

/-! ## Branches, calls, returns -/

/-- R131, R132, R133: JMP, Jcc (taken and not taken) and PCHL write PC and nothing else. -/
def Obligations.JumpsWriteOnlyPc : Prop :=
  (∀ s a, Decodes (withWord 0xC3 a) (.jmp a) ∧
    ∃ t, exec (.jmp a) s = .next t ∧ OnlyEnd s t ∧ Jumped s t a 3 10) ∧
  (∀ s cc a, Decodes (withWord (194 + 8 * condNum cc) a) (.jcc cc a) ∧
    ∃ t, exec (.jcc cc a) s = .next t ∧ OnlyEnd s t ∧
      (condTrue s.flags cc → Jumped s t a 3 10) ∧ (¬condTrue s.flags cc → Ended s t 3 10)) ∧
  (∀ s, Decodes [0xE9] .pchl ∧
    ∃ t, exec .pchl s = .next t ∧ OnlyEnd s t ∧ Jumped s t (wordOf s.h s.l) 1 5)

/-- CALL where it is not intercepted, a taken Ccc and RST (45_branch.md sections 1, 3 and 5): the address
of the next instruction is pushed, high byte first, then PC is the target; an untaken Ccc only advances.
What a faulting call leaves is 60_exceptions.md section 1 (the spec's decision D17); which calls diagnostic
mode intercepts is its section 5 (decision D21). -/
def Obligations.CallsPushTheReturnAddress : Prop :=
  ∀ s i bytes calls target cost, callForm s i = some (bytes, calls, target, cost) →
    Decodes bytes i ∧
    (calls →
      (writeFault s.cfg (s.sp - 1) = none → writeFault s.cfg (s.sp - 2) = none →
        ∃ t, exec i s = .next t ∧
          WroteTwo s t (s.sp - 1) (hiByte (s.pc + BitVec.ofNat 16 bytes.length))
            (s.sp - 2) (loByte (s.pc + BitVec.ofNat 16 bytes.length)) ∧
          t.sp = s.sp - 2 ∧ OnlyMemSp s t ∧ Jumped s t target bytes.length cost) ∧
      StopsInTwoWrites i s (s.sp - 1) (hiByte (s.pc + BitVec.ofNat 16 bytes.length)) (s.sp - 2)) ∧
    (∀ cc a, i = .ccc cc a → ¬calls →
      ∃ t, exec i s = .next t ∧ OnlyEnd s t ∧ Ended s t 3 11)

/-- R136, R137: RET and Rcc pop PC, low byte first; an untaken Rcc only advances. -/
def Obligations.ReturnsPopPc : Prop :=
  (∀ s, Decodes [0xC9] .ret ∧
    ∃ t, exec .ret s = .next t ∧ t.sp = s.sp + 2 ∧ OnlySp s t ∧
      Jumped s t (wordOf (memRead s (s.sp + 1)) (memRead s s.sp)) 1 10) ∧
  (∀ s cc, Decodes [byteOf (192 + 8 * condNum cc)] (.rcc cc) ∧
    ∃ t, exec (.rcc cc) s = .next t ∧ OnlySp s t ∧
      (condTrue s.flags cc → t.sp = s.sp + 2 ∧
        Jumped s t (wordOf (memRead s (s.sp + 1)) (memRead s s.sp)) 1 11) ∧
      (¬condTrue s.flags cc → t.sp = s.sp ∧ Ended s t 1 5))

/-- A call and the return that ends it (45_branch.md section 1): RET after a call gives PC the address
after the call and SP its old value. With a mirror offset of 1 the mirror of the low byte would fall on
the high byte, so that one offset is left out. -/
def Obligations.ReturnUndoesCall : Prop :=
  ∀ s i bytes calls target cost t, callForm s i = some (bytes, calls, target, cost) → calls →
    exec i s = .next t → s.cfg.mirrorOffset ≠ 1 →
    ∃ u, exec .ret t = .next u ∧ u.pc = s.pc + BitVec.ofNat 16 bytes.length ∧ u.sp = s.sp

/-- Diagnostic mode (60_exceptions.md section 5, decision D21): CALL 5 prints and goes on, CALL 0 halts;
neither pushes. That `hostLog` records the call of the print hook is the model's choice (log 8). -/
def Obligations.DiagnosticCallsAreIntercepted : Prop :=
  ∀ s, s.diagMode = true →
    (∃ t, exec (.call 0x0005) s = .next t ∧
      t.hostLog = .diagPrint s.c s.de s.mem :: s.hostLog ∧ Ended s t 3 17 ∧
      t = { s with
        hostLog := t.hostLog
        pc := t.pc, cycles := t.cycles, halted := t.halted, returned := t.returned }) ∧
    (∃ t, exec (.call 0x0000) s = .next t ∧ OnlyEnd s t ∧ t.pc = s.pc ∧ t.halted = true ∧
      t.cycles = s.cycles + 17 ∧ t.returned.toInt = -1)

/-! ## Stack, I/O, control -/

/-- R139, R140: PUSH writes the high byte at SP - 1 and the low byte at SP - 2, then SP. What a faulting
push leaves is also the spec's decision D17. -/
def Obligations.PushStoresHighThenLow : Prop :=
  ∀ s i bytes hi lo, pushForm s i = some (bytes, hi, lo) →
    Decodes bytes i ∧
    (writeFault s.cfg (s.sp - 1) = none → writeFault s.cfg (s.sp - 2) = none →
      ∃ t, exec i s = .next t ∧ WroteTwo s t (s.sp - 1) hi (s.sp - 2) lo ∧ t.sp = s.sp - 2 ∧
        OnlyMemSp s t ∧ Ended s t 1 11) ∧
    StopsInTwoWrites i s (s.sp - 1) hi (s.sp - 2)

/-- R142: POP PSW loads A and the five flags, and ignores bits 1, 3 and 5 of the flag byte. -/
def Obligations.PopPswLoadsAAndFlags : Prop :=
  ∀ s, Decodes [0xF1] .popPsw ∧
    ∃ t, exec .popPsw s = .next t ∧ t.a = memRead s (s.sp + 1) ∧
      t.flags.cy = decide ((memRead s s.sp).toNat % 2 = 1) ∧
      t.flags.p = decide ((memRead s s.sp).toNat / 4 % 2 = 1) ∧
      t.flags.ac = decide ((memRead s s.sp).toNat / 16 % 2 = 1) ∧
      t.flags.z = decide ((memRead s s.sp).toNat / 64 % 2 = 1) ∧
      t.flags.s = decide ((memRead s s.sp).toNat / 128 % 2 = 1) ∧
      t.sp = s.sp + 2 ∧ Ended s t 1 10 ∧
      t = { s with
        a := t.a, flags := t.flags, sp := t.sp
        pc := t.pc, cycles := t.cycles, halted := t.halted, returned := t.returned }

/-- R143: XTHL. -/
def Obligations.XthlExchangesTopOfStack : Prop :=
  ∀ s, Decodes [0xE3] .xthl ∧
    (writeFault s.cfg s.sp = none → writeFault s.cfg (s.sp + 1) = none →
      ∃ t, exec .xthl s = .next t ∧ WroteTwo s t s.sp s.l (s.sp + 1) s.h ∧
        t.l = memRead s s.sp ∧ t.h = memRead s (s.sp + 1) ∧ Ended s t 1 18 ∧
        t = { s with
          mem := t.mem, h := t.h, l := t.l
          pc := t.pc, cycles := t.cycles, halted := t.halted, returned := t.returned }) ∧
    StopsInTwoWrites .xthl s s.sp s.l (s.sp + 1)

/-- IN (46_stack_io_control.md section 2, 20_memory.md section 5): from a populated port it writes the
byte the handler answers to A and nothing else of the core but what the handler does to portBytes; from an
unpopulated port it faults. That the answer is a free value at the counter `draws` (log 2) unless the host
has settled it in `replies` (log 3), and that `hostLog` records the call (log 8), are the model's choices. -/
def Obligations.InReadsTheHandlersAnswer : Prop :=
  ∀ s p, Decodes [0xDB, p] (.inp p) ∧
    (p ∈ s.inHandlers → ∃ t, ∃ r : HandlerReply, exec (.inp p) s = .next t ∧ t.a = r.value ∧
      t.hostLog = .inCall p r.value :: s.hostLog ∧
      t.portBytes = writePorts r.portWrites s.portBytes ∧
      (s.replies = [] → r = nextReply s) ∧
      (∀ r' rest, s.replies = r' :: rest → r = r' ∧ t.replies = rest ∧ t.draws = s.draws) ∧
      Ended s t 2 10 ∧
      t = { s with
        a := t.a, portBytes := t.portBytes, replies := t.replies, draws := t.draws
        hostLog := t.hostLog
        pc := t.pc, cycles := t.cycles, halted := t.halted, returned := t.returned }) ∧
    (p ∉ s.inHandlers → StopsWith (.inp p) s (.unimplementedInPort p) { s with halted := false })

/-- OUT (46_stack_io_control.md section 2, 20_memory.md section 5): to a populated port it calls the handler
once with A and changes nothing else of the core but what the handler does to portBytes; to an unpopulated
port it faults. That what the handler does is a free value at the counter `draws` (log 2) unless the host
has settled it in `replies` (log 3), and that `hostLog` records the call (log 8), are the model's choices. -/
def Obligations.OutCallsTheHandlerOnce : Prop :=
  ∀ s p, Decodes [0xD3, p] (.outp p) ∧
    (p ∈ s.outHandlers → ∃ t, ∃ r : HandlerReply, exec (.outp p) s = .next t ∧
      t.hostLog = .outCall p s.a :: s.hostLog ∧
      t.portBytes = writePorts r.portWrites s.portBytes ∧
      (s.replies = [] → r = nextReply s) ∧
      (∀ r' rest, s.replies = r' :: rest → r = r' ∧ t.replies = rest ∧ t.draws = s.draws) ∧
      Ended s t 2 10 ∧
      t = { s with
        portBytes := t.portBytes, replies := t.replies, draws := t.draws, hostLog := t.hostLog
        pc := t.pc, cycles := t.cycles, halted := t.halted, returned := t.returned }) ∧
    (p ∉ s.outHandlers → StopsWith (.outp p) s (.unimplementedOutPort p) { s with halted := false })

/-- EI, DI and NOP (46_stack_io_control.md sections 3 and 4). EI sets INTE at the end of its own Step,
where the host reads it: there is no delay, by decision D12. -/
def Obligations.EiAndDiWriteInteAndNopNothing : Prop :=
  (Decodes [0xFB] .ei ∧ ∀ s, ∃ t, exec .ei s = .next t ∧ getPin "INTE" t = .next true ∧
    Ended s t 1 4 ∧
    t = { s with
      inte := t.inte
      pc := t.pc, cycles := t.cycles, halted := t.halted, returned := t.returned }) ∧
  (Decodes [0xF3] .di ∧ ∀ s, ∃ t, exec .di s = .next t ∧ getPin "INTE" t = .next false ∧
    Ended s t 1 4 ∧
    t = { s with
      inte := t.inte
      pc := t.pc, cycles := t.cycles, halted := t.halted, returned := t.returned }) ∧
  (Decodes [0x00] .nop ∧ ∀ s, ∃ t, exec .nop s = .next t ∧ OnlyEnd s t ∧ Ended s t 1 4)

/-- HLT (46_stack_io_control.md section 4, decision D7): halted, PC at the HLT, 7 cycles, result -1. -/
def Obligations.HltStaysAtItsAddress : Prop :=
  Decodes [0x76] .hlt ∧ ∀ s, ∃ t, exec .hlt s = .next t ∧ OnlyEnd s t ∧ t.pc = s.pc ∧
    t.halted = true ∧ t.cycles = s.cycles + 7 ∧ t.returned.toInt = -1

/-- An illegal opcode faults (30_encoding.md section 6, 40_step.md section 1, 60_exceptions.md section 1);
outside safe mode the Step that fetches one stops with that fault, and all it may have changed is the count
of iterations. The spec says both that no state changes before the fault and that the count is raised first:
leaving the count out of what is kept follows log 14 (DEDUCED), and keeping `halted` as it was follows
log 13 (DEDUCED). -/
def Obligations.IllegalOpcodesFault : Prop :=
  (∀ s op, StopsWith (.illegal op) s (.invalidInstruction s.pc op) s) ∧
  (∀ s, s.cfg.safeMode = false → memRead s s.pc ∈ illegalOpcodes →
    ∃ f, step s = .fault f ∧ f.cause = .invalidInstruction s.pc (memRead s s.pc) ∧
      f.left = { s with iterations := f.left.iterations })

/-! ## Encoding -/

/-- A few words written out bit by bit from the formats (30_encoding.md sections 3 and 5). -/
def Obligations.SampleWordsDecode : Prop :=
  decode [0b00000110#8, 0x05#8] = .ok (.mviR .b 0x05#8, []) ∧
  decode [0b11001010#8, 0x34#8, 0x12#8] = .ok (.jcc .z 0x1234#16, []) ∧
  decode [0b01111000#8] = .ok (.movRR .a .b, []) ∧
  decode [0b01110110#8] = .ok (.hlt, []) ∧
  decode [0b10011110#8] = .ok (.sbbM, []) ∧
  decode [0b11110101#8] = .ok (.pushPsw, []) ∧
  decode [0b00111001#8] = .ok (.dad .sp, []) ∧
  decode [0b11101111#8] = .ok (.rst 5, []) ∧
  decode [0b11011011#8, 0x07#8] = .ok (.inp 0x07#8, []) ∧
  decode [0b11111101#8] = .ok (.illegal 0xFD#8, [])

/-- Decoding the encoding of a well-formed instruction gives the instruction back, every operand
included, and leaves what follows. -/
def Obligations.DecodeOfEncodeIsTheInstruction : Prop :=
  ∀ i rest, i.wellFormed = true → decode (encode i ++ rest) = .ok (i, rest)

/-- The other direction: whatever decodes is a well-formed instruction whose encoding is the bytes
consumed, so each word has one meaning. -/
def Obligations.EncodeOfDecodeIsTheBytes : Prop :=
  ∀ bytes i rest, decode bytes = .ok (i, rest) → i.wellFormed = true ∧ encode i ++ rest = bytes

/-- The length the opcode alone determines is the length of the instruction decoded (30_encoding.md
section 4; an illegal opcode counts 1 here, for its one byte). -/
def Obligations.LengthIsDeterminedByOpcode : Prop :=
  ∀ op b1 b2 : Byte, opLength op = instrLength (decodeOp op b1 b2)

/-! ## The Step -/

/-- A Step runs the instruction the bytes at PC decode to (40_step.md section 1; 60_exceptions.md
section 5 for safe mode): it counts an iteration and, in safe mode, has pushed a snapshot. The result in
`returned` and the report in `hostLog` are held in the model's fields (logs 7 and 8). -/
def Obligations.StepRunsTheDecodedInstruction : Prop :=
  ∀ s, ∃ i rest, decode (bytesAtPc s) = .ok (i, rest) ∧ i.wellFormed = true ∧
    (s.cfg.safeMode = false → step s = exec i { s with iterations := s.iterations + 1 }) ∧
    (s.cfg.safeMode = true → s.pendingFault = false →
      step s =
        match exec i
          { s with
            iterations := s.iterations + 1
            snapStack := s.snapshot :: s.snapStack } with
        | .next t => .next t
        | .fault f =>
          .next
            { f.left with
              pendingFault := true
              pc := s.pc + 1
              returned := 1
              hostLog := .faultReport f.cause :: f.left.hostLog }
        | .refused r => .refused r)

/-- 40_step.md section 2: an instruction that is not a taken transfer of control or a halt moves PC past
its bytes; HLT leaves PC. -/
def Obligations.PcAdvancesByTheLength : Prop :=
  ∀ i s t, exec i s = .next t →
    (¬setsPc s i → t.pc = s.pc + BitVec.ofNat 16 (instrLength i)) ∧ (i = .hlt → t.pc = s.pc)

/-- The cycle table (70_reset_and_hazards.md section 3), the result of a Step (40_step.md section 3) and
the halted state (10_state.md section 5, decision D7): an instruction that completes charges its cost,
and returns its length or, exactly where it is HLT or the diagnostic exit, halts at its own address with
the result -1. -/
def Obligations.EveryInstructionChargesItsCost : Prop :=
  ∀ i s t, exec i s = .next t →
    t.cycles = s.cycles + cycleCost s.flags i ∧
    (t.halted = true ↔ i = .hlt ∨ s.diagMode = true ∧ i = .call 0x0000) ∧
    (t.halted = false → t.returned.toInt = instrLength i) ∧
    (t.halted = true → t.pc = s.pc ∧ t.returned.toInt = -1)

/-- 10_state.md section 6: no instruction writes the configuration registers (or any other host-side
state: the handler tables, the safe-mode stack, the pending fault, HOLD and WAIT, the iteration count). -/
def Obligations.NoInstructionWritesConfiguration : Prop :=
  ∀ i s t, exec i s = .next t →
    t.cfg = s.cfg ∧ t.inHandlers = s.inHandlers ∧ t.outHandlers = s.outHandlers ∧
    t.snapStack = s.snapStack ∧ t.pendingFault = s.pendingFault ∧ t.hold = s.hold ∧
    t.wait = s.wait ∧ t.iterations = s.iterations ∧ t.diagMode = s.diagMode

/-- Whole-machine frames from the lists of 10_state.md and 60_exceptions.md: which instructions write
INTE, SP, memory and portBytes. -/
def Obligations.OnlyListedInstructionsWriteEachPart : Prop :=
  ∀ i s t, exec i s = .next t →
    (i ≠ .ei → i ≠ .di → t.inte = s.inte) ∧
    (writesSp i = false → t.sp = s.sp) ∧
    (writesMemory i = false → ∀ x, memRead t x = memRead s x) ∧
    ((∀ p, i ≠ .inp p) → (∀ p, i ≠ .outp p) → t.portBytes = s.portBytes)

/-- The flag table of 10_state.md section 3: an instruction writes no flag it is not listed for. -/
def Obligations.FlagsNotListedAreKept : Prop :=
  ∀ i s t, exec i s = .next t →
    ((writesFlags i).1 = false →
      t.flags.z = s.flags.z ∧ t.flags.s = s.flags.s ∧ t.flags.p = s.flags.p ∧
        t.flags.ac = s.flags.ac) ∧
    ((writesFlags i).2 = false → t.flags.cy = s.flags.cy)

/-! ## Memory -/

/-- The check before a byte write (20_memory.md section 2, decisions D14 to D16), in numbers: the mirror
bound first, then the primary address, then the mirror address; and what a write that passes stores. -/
def Obligations.MemoryWriteChecksBothTargets : Prop :=
  ∀ (s : State) (a : Word) (v : Byte),
    (s.cfg.mirrorOffset ≠ 0 → 65536 ≤ a.toNat + s.cfg.mirrorOffset.toNat →
      memWrite a v s = .fault (.mirrorOutOfRange a s)) ∧
    ((s.cfg.mirrorOffset = 0 ∨ a.toNat + s.cfg.mirrorOffset.toNat < 65536) →
      (inRoRange s.cfg a.toNat → memWrite a v s = .fault (.readOnlyWrite a s)) ∧
      (¬inRoRange s.cfg a.toNat → s.cfg.mirrorOffset ≠ 0 →
        inRoRange s.cfg (a.toNat + s.cfg.mirrorOffset.toNat) →
        memWrite a v s = .fault (.readOnlyWrite (a + s.cfg.mirrorOffset) s)) ∧
      (¬inRoRange s.cfg a.toNat →
        (s.cfg.mirrorOffset ≠ 0 → ¬inRoRange s.cfg (a.toNat + s.cfg.mirrorOffset.toNat)) →
        ∃ t, memWrite a v s = .next t ∧ Wrote s t a v ∧ t = { s with mem := t.mem }))

/-- Two memories in canonical form that read the same everywhere are the same list (how memory is held is
the model's choice). -/
def Obligations.EqualReadsMeanEqualMemories : Prop :=
  ∀ m n : Memory, m.wf = true → n.wf = true → (∀ k, m.read k = n.read k) → m = n

/-- A store is seen by the next fetch (20_memory.md section 7): after STA at the address `a`, the
instruction fetched there is the one whose opcode byte is A. -/
def Obligations.FetchSeesTheStore : Prop :=
  ∀ s a t, exec (.sta a) s = .next t →
    ∃ i rest, decode [s.a, memRead t (a + 1), memRead t (a + 2)] = .ok (i, rest) ∧
      (t.cfg.safeMode = false →
        step { t with pc := a } = exec i { t with pc := a, iterations := t.iterations + 1 })

/-! ## Flags -/

/-- The packed flag byte, bit by bit (10_state.md section 3; decision D33 for unpacking). -/
def Obligations.PackedFlagByteLayout : Prop :=
  ∀ f : Flags, f.pack.getLsbD 7 = f.s ∧ f.pack.getLsbD 6 = f.z ∧ f.pack.getLsbD 5 = false ∧
    f.pack.getLsbD 4 = f.ac ∧ f.pack.getLsbD 3 = false ∧ f.pack.getLsbD 2 = f.p ∧
    f.pack.getLsbD 1 = true ∧ f.pack.getLsbD 0 = f.cy ∧ Flags.unpack f.pack = f

/-! ## Faults, interrupts, pins -/

/-- Which instruction raises which fault (60_exceptions.md section 1). -/
def Obligations.FaultsComeFromListedInstructions : Prop :=
  ∀ i s f, exec i s = .fault f →
    match f.cause with
    | .invalidInstruction pc0 op => pc0 = s.pc ∧ i = .illegal op
    | .readOnlyWrite a => writesMemory i = true ∧ inRoRange s.cfg a.toNat
    | .mirrorOutOfRange a =>
      writesMemory i = true ∧ s.cfg.mirrorOffset ≠ 0 ∧
        65536 ≤ a.toNat + s.cfg.mirrorOffset.toNat
    | .unimplementedInPort p => i = .inp p ∧ p ∉ s.inHandlers
    | .unimplementedOutPort p => i = .outp p ∧ p ∉ s.outHandlers

/-- The state a fault leaves (60_exceptions.md section 1, decision D17): nothing but memory bytes already
written, and `halted`, can differ; PC stays at the instruction, SP and the cycles are unchanged. -/
def Obligations.FaultsArePrecise : Prop :=
  ∀ i s f, exec i s = .fault f →
    f.left = { s with mem := f.left.mem, halted := f.left.halted } ∧
    (writesMemory i = false → f.left.mem = s.mem)

/-- Interrupt entry (60_exceptions.md section 2, decisions D8 to D11): taken whatever INTE is, PC pushed,
PC at the vector, INTE and halted cleared, no cycles; a vector number outside 0..7 is rejected. -/
def Obligations.InterruptEntryPushesPc : Prop :=
  (∀ s (n : Nat), n < 8 →
    (writeFault s.cfg (s.sp - 1) = none → writeFault s.cfg (s.sp - 2) = none →
      ∃ t, generateInterrupt n s = .next t ∧
        WroteTwo s t (s.sp - 1) (hiByte s.pc) (s.sp - 2) (loByte s.pc) ∧ t.sp = s.sp - 2 ∧
        t.pc.toNat = 8 * n ∧ t.inte = false ∧ t.halted = false ∧
        t = { s with mem := t.mem, sp := t.sp, pc := t.pc, inte := t.inte, halted := t.halted }) ∧
    (∀ cause, writeFault s.cfg (s.sp - 1) = some cause →
      ∃ f, generateInterrupt n s = .fault f ∧ f.cause = cause ∧ f.left = s) ∧
    (∀ cause, writeFault s.cfg (s.sp - 1) = none → writeFault s.cfg (s.sp - 2) = some cause →
      ∃ f, generateInterrupt n s = .fault f ∧ f.cause = cause ∧
        Wrote s f.left (s.sp - 1) (hiByte s.pc) ∧ f.left = { s with mem := f.left.mem })) ∧
  (∀ s (n : Int), n < 0 ∨ 7 < n → generateInterrupt n s = .refused (.rstOutOfRange n))

/-- Return from an interrupt is an ordinary RET (60_exceptions.md section 2): it comes back to the PC at
which the interrupt was taken, the HLT's own address for a halted core, and leaves INTE clear. -/
def Obligations.ReturnUndoesInterruptEntry : Prop :=
  ∀ s n t, generateInterrupt n s = .next t → s.cfg.mirrorOffset ≠ 1 →
    ∃ u, exec .ret t = .next u ∧ u.pc = s.pc ∧ u.sp = s.sp ∧ u.inte = false

/-- R163: an unknown pin name is rejected. -/
def Obligations.UnknownPinNamesAreRejected : Prop :=
  ∀ s name b, name ≠ "INTE" → name ≠ "HOLD" → name ≠ "WAIT" →
    setPin name b s = .refused (.invalidPinName name) ∧
    getPin name s = .refused (.invalidPinName name)

/-- No rule of the core reads a pin (10_state.md section 4, decision D13): outside safe mode a Step does
the same whatever the pins are, the host's handlers answering the same (log 2). -/
def Obligations.PinsDoNotAffectExecution : Prop :=
  ∀ s x y z, s.cfg.safeMode = false →
    mapState hidePins (step { s with inte := x, hold := y, wait := z }) =
      mapState hidePins (step s)

/-- No rule of the core reads a counter (70_reset_and_hazards.md section 3): outside safe mode a Step
does the same whatever the counters are, the host's handlers answering the same (log 2). -/
def Obligations.CountersDoNotAffectExecution : Prop :=
  ∀ s n k, s.cfg.safeMode = false →
    mapState hideCounters (step { s with cycles := n, iterations := k }) =
      mapState hideCounters (step s)

/-! ## Safe mode -/

/-- Safe mode never changes what a non-faulting program computes (60_exceptions.md section 5, decision
D20): a Step that completes outside safe mode completes in it with the same state and one more snapshot,
and one that faults is marked for retry instead (the host's handlers answering the same, log 2; `returned`
and `hostLog` are the model's fields, logs 7 and 8). -/
def Obligations.SafeModeIsTransparent : Prop :=
  ∀ s, s.cfg.safeMode = true → s.pendingFault = false →
    (∀ t, step { s with cfg := { s.cfg with safeMode := false } } = .next t →
      step s = .next { t with cfg := s.cfg, snapStack := s.snapshot :: s.snapStack }) ∧
    (∀ f, step { s with cfg := { s.cfg with safeMode := false } } = .fault f →
      step s = .next
        { f.left with
          cfg := s.cfg
          snapStack := s.snapshot :: s.snapStack
          pendingFault := true
          pc := s.pc + 1
          returned := 1
          hostLog := .faultReport f.cause :: f.left.hostLog })

/-- A fault in safe mode is undone by the next Step (60_exceptions.md section 5): that Step is the Step
from the state before the faulting instruction, apart from the iteration count, `halted`, the last
result and the reports (the last two are the model's fields: logs 7, 8 and 17). -/
def Obligations.FaultingStepIsRolledBack : Prop :=
  ∀ s t, s.cfg.safeMode = true → s.pendingFault = false → step s = .next t →
    t.pendingFault = true →
    step t = step
      { s with
        iterations := t.iterations
        halted := t.halted
        returned := t.returned
        hostLog := .retryReport s.pc (fetchInstr s.mem s.pc) :: t.hostLog }

/-- Without a change by the host the retry faults again, with the same fault (60_exceptions.md
section 5). The reports are read from the model's field `hostLog` (log 8). -/
def Obligations.RetryFaultsAgain : Prop :=
  ∀ s t, s.cfg.safeMode = true → s.pendingFault = false → step s = .next t →
    t.pendingFault = true →
    ∃ u cause, t.hostLog = .faultReport cause :: s.hostLog ∧ step t = .next u ∧
      u.pendingFault = true ∧ u.hostLog.head? = some (.faultReport cause) ∧ u.pc = t.pc ∧
      u.mem = t.mem ∧ u.sp = t.sp ∧ u.cycles = t.cycles

/-! ## Reset, invariants, runs -/

/-- The reset values (10_state.md section 8: the spec's decision D6), and that the invariant of
Safety.lean holds after reset. -/
def Obligations.ResetStateIsGood : Prop :=
  (∀ r, State.reset.reg r = 0x00) ∧ State.reset.sp = 0x0000 ∧ State.reset.pc = 0x0000 ∧
  State.reset.flags.pack = 0x02 ∧ State.reset.inte = false ∧ State.reset.hold = false ∧
  State.reset.wait = false ∧ State.reset.halted = false ∧ State.reset.cycles = 0 ∧
  State.reset.iterations = 0 ∧ (∀ x, memRead State.reset x = 0x00) ∧
  (∀ k, State.reset.portBytes.read k = 0x00) ∧ State.reset.inHandlers = [] ∧
  State.reset.outHandlers = [] ∧ State.reset.cfg.mirrorOffset = 0 ∧
  State.reset.cfg.roRange = none ∧ State.reset.cfg.safeMode = false ∧
  State.reset.snapStack = [] ∧ State.reset.pendingFault = false ∧ State.reset.inv = true

/-- Every Step keeps the invariant: canonical memories and port lists, good snapshots, a legal result,
and a snapshot to restore whenever a fault is pending. -/
def Obligations.StepKeepsTheInvariant : Prop :=
  ∀ s t, s.inv = true → step s = .next t → t.inv = true

/-- Every host call of the model's list (log 16, DESIGN CHOICE) keeps the invariant. -/
def Obligations.HostCallsKeepTheInvariant : Prop :=
  ∀ c s t, s.inv = true → hostCall c s = .next t → t.inv = true

/-- No Step from a state that meets the invariant is refused: it goes on or stops with a fault the spec
names (60_exceptions.md section 1), and with SAFE_MODE = 1 it always goes on (section 5); so too in every
state that Steps and the model's host calls lead to from reset. The refusal ruled out is the model's
(log 10, DESIGN CHOICE), host calls happen between Steps only (log 11, DESIGN CHOICE), and which host calls
there are is the model's list (log 16, DESIGN CHOICE): a host that does more is not covered by the second
part, but by the first where it keeps the invariant. -/
def Obligations.ReachableStepsAreNeverRefused : Prop :=
  (∀ s diag, s.inv = true →
    notRefused (stepWith diag s) = true ∧
      (s.cfg.safeMode = true → ∃ t, stepWith diag s = .next t)) ∧
  (∀ s diag, Reachable s →
    notRefused (stepWith diag s) = true ∧
      (s.cfg.safeMode = true → ∃ t, stepWith diag s = .next t))

/-- Run ends (40_step.md section 4): the bound on Steps that `run` takes (the model's, log 18) is never
what ends it. -/
def Obligations.RunNeverReachesItsStepBound : Prop :=
  ∀ budget diag s t, run budget diag s ≠ .stepBoundReached t

/-- A Run that spends its budget exceeds it by less than the dearest instruction, 18 cycles (40_step.md
section 4, decision D22). -/
def Obligations.RunExceedsBudgetByOneInstruction : Prop :=
  ∀ budget diag s t, s.pendingFault = false → run budget diag s = .budgetSpent t →
    s.cycles + budget ≤ t.cycles ∧ t.cycles < s.cycles + budget + 18

/-- A Run that reports Halted ends in a halted state at the address of its HLT or diagnostic exit
(40_step.md section 4). -/
def Obligations.RunReportsHaltedOnlyWhenHalted : Prop :=
  ∀ budget diag s t, run budget diag s = .halted t →
    t.halted = true ∧
      (fetchInstr t.mem t.pc = .hlt ∨ diag = true ∧ fetchInstr t.mem t.pc = .call 0x0000)
end

