-- ==== Sys2Proof/Laws/Memory.lean ====
section
/-! SUPPORT. The laws of the byte store: read after write, and that every operation keeps the canonical
form. -/

namespace Sys2Proof.Machine

namespace Memory

/-! ### Reading after writing -/

@[simp] theorem read_nil (k : Nat) : Memory.read [] k = 0x00 := rfl

theorem read_erase_same (m : Memory) (k : Nat) : (m.erase k).read k = 0x00 := by
  induction m with
  | nil => rfl
  | cons c rest ih =>
    by_cases h : c.1 = k <;> simp [Memory.erase, Memory.read, h, ih]

theorem read_erase_other (m : Memory) {k j : Nat} (h : j ≠ k) : (m.erase k).read j = m.read j := by
  induction m with
  | nil => rfl
  | cons c rest ih =>
    by_cases hk : c.1 = k
    · simp [Memory.erase, Memory.read, hk, ih, Ne.symm h]
    · simp [Memory.erase, Memory.read, hk, ih]

theorem read_insert_other (m : Memory) {k j : Nat} (v : Byte) (h : j ≠ k) :
    (m.insert k v).read j = m.read j := by
  induction m with
  | nil => simp [Memory.insert, Memory.read, Ne.symm h, Memory.unlisted]
  | cons c rest ih =>
    by_cases hk : k < c.1
    · simp [Memory.insert, Memory.read, hk, Ne.symm h]
    · simp [Memory.insert, Memory.read, hk, ih]

theorem read_insert_erase_same (m : Memory) (k : Nat) (v : Byte) :
    ((m.erase k).insert k v).read k = v := by
  induction m with
  | nil => simp [Memory.erase, Memory.insert, Memory.read]
  | cons c rest ih =>
    by_cases hk : c.1 = k
    · simp [Memory.erase, hk, ih]
    · by_cases hlt : k < c.1 <;> simp [Memory.erase, Memory.insert, Memory.read, hk, hlt, ih]

/-- A byte just written reads back. -/
theorem read_write_same (m : Memory) (k : Nat) (v : Byte) : (m.write k v).read k = v := by
  unfold Memory.write
  split
  · rename_i h; rw [read_erase_same, h]; rfl
  · exact read_insert_erase_same m k v

/-- A write leaves every other address alone. -/
theorem read_write_other (m : Memory) {k j : Nat} (v : Byte) (h : j ≠ k) :
    (m.write k v).read j = m.read j := by
  unfold Memory.write
  split
  · exact read_erase_other m h
  · rw [read_insert_other _ _ h, read_erase_other m h]

theorem read_write (m : Memory) (k j : Nat) (v : Byte) :
    (m.write k v).read j = if j = k then v else m.read j := by
  by_cases h : j = k
  · simp [h, read_write_same]
  · simp [h, read_write_other m v h]

/-! ### The canonical form -/

theorem canonical_cons {hi lo k : Nat} {v : Byte} {rest : Memory} :
    Memory.canonical hi lo ((k, v) :: rest) = true ↔
      lo ≤ k ∧ k < hi ∧ v ≠ 0x00 ∧ Memory.canonical hi (k + 1) rest = true := by
  simp only [Memory.canonical, Bool.and_eq_true, decide_eq_true_eq, and_assoc]
  exact Iff.rfl

theorem canonical_lower {hi lo lo' : Nat} {m : Memory} (h : Memory.canonical hi lo m = true)
    (hl : lo' ≤ lo) : Memory.canonical hi lo' m = true := by
  cases m with
  | nil => rfl
  | cons c rest =>
    obtain ⟨k, v⟩ := c
    rw [canonical_cons] at h ⊢
    exact ⟨le_trans hl h.1, h.2⟩

theorem canonical_erase {hi lo : Nat} {m : Memory} (k : Nat)
    (h : Memory.canonical hi lo m = true) : Memory.canonical hi lo (m.erase k) = true := by
  induction m generalizing lo with
  | nil => rfl
  | cons c rest ih =>
    obtain ⟨k', v⟩ := c
    rw [canonical_cons] at h
    by_cases hk : k' = k
    · simp only [Memory.erase, hk, if_true]
      exact canonical_lower (ih h.2.2.2) (by omega)
    · simp only [Memory.erase, hk, if_false]
      rw [canonical_cons]
      exact ⟨h.1, h.2.1, h.2.2.1, ih h.2.2.2⟩

/-- No cell of the store is at address `k`. -/
def Free (k : Nat) : Memory → Prop
  | [] => True
  | (k', _) :: rest => k' ≠ k ∧ Free k rest

theorem free_erase (k : Nat) (m : Memory) : Free k (m.erase k) := by
  induction m with
  | nil => trivial
  | cons c rest ih =>
    by_cases hk : c.1 = k <;> simp [Memory.erase, Free, hk, ih]

theorem canonical_insert {hi lo k : Nat} {v : Byte} {m : Memory}
    (h : Memory.canonical hi lo m = true) (hf : Free k m) (hlo : lo ≤ k) (hhi : k < hi)
    (hv : v ≠ 0x00) : Memory.canonical hi lo (m.insert k v) = true := by
  induction m generalizing lo with
  | nil => exact canonical_cons.2 ⟨hlo, hhi, hv, rfl⟩
  | cons c rest ih =>
    obtain ⟨k', v'⟩ := c
    rw [canonical_cons] at h
    by_cases hk : k < k'
    · simp only [Memory.insert, hk, if_true]
      rw [canonical_cons, canonical_cons]
      exact ⟨hlo, hhi, hv, hk, h.2.1, h.2.2.1, h.2.2.2⟩
    · simp only [Memory.insert, hk, if_false]
      rw [canonical_cons]
      exact ⟨h.1, h.2.1, h.2.2.1, ih h.2.2.2 hf.2 (by have := hf.1; omega)⟩

/-- A write below the bound keeps the canonical form. -/
theorem canonical_write {hi : Nat} {m : Memory} (k : Nat) (v : Byte)
    (h : Memory.canonical hi 0 m = true) (hk : k < hi) :
    Memory.canonical hi 0 (m.write k v) = true := by
  unfold Memory.write
  split
  · exact canonical_erase k h
  · rename_i hv
    exact canonical_insert (canonical_erase k h) (free_erase k m) (Nat.zero_le k) hk hv

theorem wf_write {m : Memory} (a : Word) (v : Byte) (h : m.wf = true) :
    (m.write a.toNat v).wf = true :=
  canonical_write a.toNat v h a.isLt

theorem wfPorts_write {m : Memory} (p v : Byte) (h : m.wfPorts = true) :
    (m.write p.toNat v).wfPorts = true :=
  canonical_write p.toNat v h p.isLt

end Memory

/-! ### The operations over several cells -/

theorem storeAll_wf (v : Byte) (ts : List Word) {m : Memory} (h : m.wf = true) :
    (storeAll v ts m).wf = true := by
  induction ts generalizing m with
  | nil => exact h
  | cons t ts ih => exact ih (Memory.wf_write t v h)

theorem placeBytes_wf (bytes : List Byte) (a : Word) {m : Memory} (h : m.wf = true) :
    (placeBytes bytes a m).wf = true := by
  induction bytes generalizing a m with
  | nil => exact h
  | cons b bytes ih => exact ih (a + 1) (Memory.wf_write a b h)

theorem writePorts_wf (ws : List (Byte × Byte)) {m : Memory} (h : m.wfPorts = true) :
    (writePorts ws m).wfPorts = true := by
  induction ws generalizing m with
  | nil => exact h
  | cons w ws ih => exact ih (Memory.wfPorts_write w.1 w.2 h)

/-- The byte at `j` after storing `v` at each of `ts`. -/
theorem storeAll_read (v : Byte) (ts : List Word) (m : Memory) (j : Nat) :
    (storeAll v ts m).read j = if j ∈ ts.map BitVec.toNat then v else m.read j := by
  induction ts generalizing m with
  | nil => simp [storeAll]
  | cons t ts ih =>
    rw [storeAll, ih, Memory.read_write]
    by_cases h : j ∈ ts.map BitVec.toNat <;> by_cases h' : j = t.toNat <;> simp [h, h']

end Sys2Proof.Machine
end

