-- ==== Sys2Proof/Laws/State.lean ====
section
/-! SUPPORT. What each named update of the state does to each field: one lemma per field per update, so
that no later proof unfolds a record update. -/

namespace Sys2Proof.Machine

/-! ### `start` -/

@[simp] theorem start_a (s : State) :
    (start s).a = s.a := rfl
@[simp] theorem start_b (s : State) :
    (start s).b = s.b := rfl
@[simp] theorem start_c (s : State) :
    (start s).c = s.c := rfl
@[simp] theorem start_d (s : State) :
    (start s).d = s.d := rfl
@[simp] theorem start_e (s : State) :
    (start s).e = s.e := rfl
@[simp] theorem start_h (s : State) :
    (start s).h = s.h := rfl
@[simp] theorem start_l (s : State) :
    (start s).l = s.l := rfl
@[simp] theorem start_sp (s : State) :
    (start s).sp = s.sp := rfl
@[simp] theorem start_pc (s : State) :
    (start s).pc = s.pc := rfl
@[simp] theorem start_flags (s : State) :
    (start s).flags = s.flags := rfl
@[simp] theorem start_inte (s : State) :
    (start s).inte = s.inte := rfl
@[simp] theorem start_hold (s : State) :
    (start s).hold = s.hold := rfl
@[simp] theorem start_wait (s : State) :
    (start s).wait = s.wait := rfl
@[simp] theorem start_halted (s : State) :
    (start s).halted = false := rfl
@[simp] theorem start_cycles (s : State) :
    (start s).cycles = s.cycles := rfl
@[simp] theorem start_iterations (s : State) :
    (start s).iterations = s.iterations := rfl
@[simp] theorem start_mem (s : State) :
    (start s).mem = s.mem := rfl
@[simp] theorem start_portBytes (s : State) :
    (start s).portBytes = s.portBytes := rfl
@[simp] theorem start_inHandlers (s : State) :
    (start s).inHandlers = s.inHandlers := rfl
@[simp] theorem start_outHandlers (s : State) :
    (start s).outHandlers = s.outHandlers := rfl
@[simp] theorem start_cfg (s : State) :
    (start s).cfg = s.cfg := rfl
@[simp] theorem start_pendingFault (s : State) :
    (start s).pendingFault = s.pendingFault := rfl
@[simp] theorem start_snapStack (s : State) :
    (start s).snapStack = s.snapStack := rfl
@[simp] theorem start_diagMode (s : State) :
    (start s).diagMode = s.diagMode := rfl
@[simp] theorem start_returned (s : State) :
    (start s).returned = s.returned := rfl
@[simp] theorem start_replies (s : State) :
    (start s).replies = s.replies := rfl
@[simp] theorem start_draws (s : State) :
    (start s).draws = s.draws := rfl
@[simp] theorem start_hostLog (s : State) :
    (start s).hostLog = s.hostLog := rfl

/-! ### `advance` -/

@[simp] theorem advance_a (n k : Nat) (s : State) :
    (advance n k s).a = s.a := rfl
@[simp] theorem advance_b (n k : Nat) (s : State) :
    (advance n k s).b = s.b := rfl
@[simp] theorem advance_c (n k : Nat) (s : State) :
    (advance n k s).c = s.c := rfl
@[simp] theorem advance_d (n k : Nat) (s : State) :
    (advance n k s).d = s.d := rfl
@[simp] theorem advance_e (n k : Nat) (s : State) :
    (advance n k s).e = s.e := rfl
@[simp] theorem advance_h (n k : Nat) (s : State) :
    (advance n k s).h = s.h := rfl
@[simp] theorem advance_l (n k : Nat) (s : State) :
    (advance n k s).l = s.l := rfl
@[simp] theorem advance_sp (n k : Nat) (s : State) :
    (advance n k s).sp = s.sp := rfl
@[simp] theorem advance_pc (n k : Nat) (s : State) :
    (advance n k s).pc = s.pc + BitVec.ofNat 16 n := rfl
@[simp] theorem advance_flags (n k : Nat) (s : State) :
    (advance n k s).flags = s.flags := rfl
@[simp] theorem advance_inte (n k : Nat) (s : State) :
    (advance n k s).inte = s.inte := rfl
@[simp] theorem advance_hold (n k : Nat) (s : State) :
    (advance n k s).hold = s.hold := rfl
@[simp] theorem advance_wait (n k : Nat) (s : State) :
    (advance n k s).wait = s.wait := rfl
@[simp] theorem advance_halted (n k : Nat) (s : State) :
    (advance n k s).halted = s.halted := rfl
@[simp] theorem advance_cycles (n k : Nat) (s : State) :
    (advance n k s).cycles = s.cycles + k := rfl
@[simp] theorem advance_iterations (n k : Nat) (s : State) :
    (advance n k s).iterations = s.iterations := rfl
@[simp] theorem advance_mem (n k : Nat) (s : State) :
    (advance n k s).mem = s.mem := rfl
@[simp] theorem advance_portBytes (n k : Nat) (s : State) :
    (advance n k s).portBytes = s.portBytes := rfl
@[simp] theorem advance_inHandlers (n k : Nat) (s : State) :
    (advance n k s).inHandlers = s.inHandlers := rfl
@[simp] theorem advance_outHandlers (n k : Nat) (s : State) :
    (advance n k s).outHandlers = s.outHandlers := rfl
@[simp] theorem advance_cfg (n k : Nat) (s : State) :
    (advance n k s).cfg = s.cfg := rfl
@[simp] theorem advance_pendingFault (n k : Nat) (s : State) :
    (advance n k s).pendingFault = s.pendingFault := rfl
@[simp] theorem advance_snapStack (n k : Nat) (s : State) :
    (advance n k s).snapStack = s.snapStack := rfl
@[simp] theorem advance_diagMode (n k : Nat) (s : State) :
    (advance n k s).diagMode = s.diagMode := rfl
@[simp] theorem advance_returned (n k : Nat) (s : State) :
    (advance n k s).returned = BitVec.ofNat 16 n := rfl
@[simp] theorem advance_replies (n k : Nat) (s : State) :
    (advance n k s).replies = s.replies := rfl
@[simp] theorem advance_draws (n k : Nat) (s : State) :
    (advance n k s).draws = s.draws := rfl
@[simp] theorem advance_hostLog (n k : Nat) (s : State) :
    (advance n k s).hostLog = s.hostLog := rfl

/-! ### `jump` -/

@[simp] theorem jump_a (n k : Nat) (t : Word) (s : State) :
    (jump n k t s).a = s.a := rfl
@[simp] theorem jump_b (n k : Nat) (t : Word) (s : State) :
    (jump n k t s).b = s.b := rfl
@[simp] theorem jump_c (n k : Nat) (t : Word) (s : State) :
    (jump n k t s).c = s.c := rfl
@[simp] theorem jump_d (n k : Nat) (t : Word) (s : State) :
    (jump n k t s).d = s.d := rfl
@[simp] theorem jump_e (n k : Nat) (t : Word) (s : State) :
    (jump n k t s).e = s.e := rfl
@[simp] theorem jump_h (n k : Nat) (t : Word) (s : State) :
    (jump n k t s).h = s.h := rfl
@[simp] theorem jump_l (n k : Nat) (t : Word) (s : State) :
    (jump n k t s).l = s.l := rfl
@[simp] theorem jump_sp (n k : Nat) (t : Word) (s : State) :
    (jump n k t s).sp = s.sp := rfl
@[simp] theorem jump_pc (n k : Nat) (t : Word) (s : State) :
    (jump n k t s).pc = t := rfl
@[simp] theorem jump_flags (n k : Nat) (t : Word) (s : State) :
    (jump n k t s).flags = s.flags := rfl
@[simp] theorem jump_inte (n k : Nat) (t : Word) (s : State) :
    (jump n k t s).inte = s.inte := rfl
@[simp] theorem jump_hold (n k : Nat) (t : Word) (s : State) :
    (jump n k t s).hold = s.hold := rfl
@[simp] theorem jump_wait (n k : Nat) (t : Word) (s : State) :
    (jump n k t s).wait = s.wait := rfl
@[simp] theorem jump_halted (n k : Nat) (t : Word) (s : State) :
    (jump n k t s).halted = s.halted := rfl
@[simp] theorem jump_cycles (n k : Nat) (t : Word) (s : State) :
    (jump n k t s).cycles = s.cycles + k := rfl
@[simp] theorem jump_iterations (n k : Nat) (t : Word) (s : State) :
    (jump n k t s).iterations = s.iterations := rfl
@[simp] theorem jump_mem (n k : Nat) (t : Word) (s : State) :
    (jump n k t s).mem = s.mem := rfl
@[simp] theorem jump_portBytes (n k : Nat) (t : Word) (s : State) :
    (jump n k t s).portBytes = s.portBytes := rfl
@[simp] theorem jump_inHandlers (n k : Nat) (t : Word) (s : State) :
    (jump n k t s).inHandlers = s.inHandlers := rfl
@[simp] theorem jump_outHandlers (n k : Nat) (t : Word) (s : State) :
    (jump n k t s).outHandlers = s.outHandlers := rfl
@[simp] theorem jump_cfg (n k : Nat) (t : Word) (s : State) :
    (jump n k t s).cfg = s.cfg := rfl
@[simp] theorem jump_pendingFault (n k : Nat) (t : Word) (s : State) :
    (jump n k t s).pendingFault = s.pendingFault := rfl
@[simp] theorem jump_snapStack (n k : Nat) (t : Word) (s : State) :
    (jump n k t s).snapStack = s.snapStack := rfl
@[simp] theorem jump_diagMode (n k : Nat) (t : Word) (s : State) :
    (jump n k t s).diagMode = s.diagMode := rfl
@[simp] theorem jump_returned (n k : Nat) (t : Word) (s : State) :
    (jump n k t s).returned = BitVec.ofNat 16 n := rfl
@[simp] theorem jump_replies (n k : Nat) (t : Word) (s : State) :
    (jump n k t s).replies = s.replies := rfl
@[simp] theorem jump_draws (n k : Nat) (t : Word) (s : State) :
    (jump n k t s).draws = s.draws := rfl
@[simp] theorem jump_hostLog (n k : Nat) (t : Word) (s : State) :
    (jump n k t s).hostLog = s.hostLog := rfl

/-! ### `halt` -/

@[simp] theorem halt_a (k : Nat) (s : State) :
    (halt k s).a = s.a := rfl
@[simp] theorem halt_b (k : Nat) (s : State) :
    (halt k s).b = s.b := rfl
@[simp] theorem halt_c (k : Nat) (s : State) :
    (halt k s).c = s.c := rfl
@[simp] theorem halt_d (k : Nat) (s : State) :
    (halt k s).d = s.d := rfl
@[simp] theorem halt_e (k : Nat) (s : State) :
    (halt k s).e = s.e := rfl
@[simp] theorem halt_h (k : Nat) (s : State) :
    (halt k s).h = s.h := rfl
@[simp] theorem halt_l (k : Nat) (s : State) :
    (halt k s).l = s.l := rfl
@[simp] theorem halt_sp (k : Nat) (s : State) :
    (halt k s).sp = s.sp := rfl
@[simp] theorem halt_pc (k : Nat) (s : State) :
    (halt k s).pc = s.pc := rfl
@[simp] theorem halt_flags (k : Nat) (s : State) :
    (halt k s).flags = s.flags := rfl
@[simp] theorem halt_inte (k : Nat) (s : State) :
    (halt k s).inte = s.inte := rfl
@[simp] theorem halt_hold (k : Nat) (s : State) :
    (halt k s).hold = s.hold := rfl
@[simp] theorem halt_wait (k : Nat) (s : State) :
    (halt k s).wait = s.wait := rfl
@[simp] theorem halt_halted (k : Nat) (s : State) :
    (halt k s).halted = true := rfl
@[simp] theorem halt_cycles (k : Nat) (s : State) :
    (halt k s).cycles = s.cycles + k := rfl
@[simp] theorem halt_iterations (k : Nat) (s : State) :
    (halt k s).iterations = s.iterations := rfl
@[simp] theorem halt_mem (k : Nat) (s : State) :
    (halt k s).mem = s.mem := rfl
@[simp] theorem halt_portBytes (k : Nat) (s : State) :
    (halt k s).portBytes = s.portBytes := rfl
@[simp] theorem halt_inHandlers (k : Nat) (s : State) :
    (halt k s).inHandlers = s.inHandlers := rfl
@[simp] theorem halt_outHandlers (k : Nat) (s : State) :
    (halt k s).outHandlers = s.outHandlers := rfl
@[simp] theorem halt_cfg (k : Nat) (s : State) :
    (halt k s).cfg = s.cfg := rfl
@[simp] theorem halt_pendingFault (k : Nat) (s : State) :
    (halt k s).pendingFault = s.pendingFault := rfl
@[simp] theorem halt_snapStack (k : Nat) (s : State) :
    (halt k s).snapStack = s.snapStack := rfl
@[simp] theorem halt_diagMode (k : Nat) (s : State) :
    (halt k s).diagMode = s.diagMode := rfl
@[simp] theorem halt_returned (k : Nat) (s : State) :
    (halt k s).returned = haltSentinel := rfl
@[simp] theorem halt_replies (k : Nat) (s : State) :
    (halt k s).replies = s.replies := rfl
@[simp] theorem halt_draws (k : Nat) (s : State) :
    (halt k s).draws = s.draws := rfl
@[simp] theorem halt_hostLog (k : Nat) (s : State) :
    (halt k s).hostLog = s.hostLog := rfl

/-! ### `popped` -/

@[simp] theorem popped_a (s : State) :
    (popped s).a = s.a := rfl
@[simp] theorem popped_b (s : State) :
    (popped s).b = s.b := rfl
@[simp] theorem popped_c (s : State) :
    (popped s).c = s.c := rfl
@[simp] theorem popped_d (s : State) :
    (popped s).d = s.d := rfl
@[simp] theorem popped_e (s : State) :
    (popped s).e = s.e := rfl
@[simp] theorem popped_h (s : State) :
    (popped s).h = s.h := rfl
@[simp] theorem popped_l (s : State) :
    (popped s).l = s.l := rfl
@[simp] theorem popped_sp (s : State) :
    (popped s).sp = s.sp + 2 := rfl
@[simp] theorem popped_pc (s : State) :
    (popped s).pc = s.pc := rfl
@[simp] theorem popped_flags (s : State) :
    (popped s).flags = s.flags := rfl
@[simp] theorem popped_inte (s : State) :
    (popped s).inte = s.inte := rfl
@[simp] theorem popped_hold (s : State) :
    (popped s).hold = s.hold := rfl
@[simp] theorem popped_wait (s : State) :
    (popped s).wait = s.wait := rfl
@[simp] theorem popped_halted (s : State) :
    (popped s).halted = s.halted := rfl
@[simp] theorem popped_cycles (s : State) :
    (popped s).cycles = s.cycles := rfl
@[simp] theorem popped_iterations (s : State) :
    (popped s).iterations = s.iterations := rfl
@[simp] theorem popped_mem (s : State) :
    (popped s).mem = s.mem := rfl
@[simp] theorem popped_portBytes (s : State) :
    (popped s).portBytes = s.portBytes := rfl
@[simp] theorem popped_inHandlers (s : State) :
    (popped s).inHandlers = s.inHandlers := rfl
@[simp] theorem popped_outHandlers (s : State) :
    (popped s).outHandlers = s.outHandlers := rfl
@[simp] theorem popped_cfg (s : State) :
    (popped s).cfg = s.cfg := rfl
@[simp] theorem popped_pendingFault (s : State) :
    (popped s).pendingFault = s.pendingFault := rfl
@[simp] theorem popped_snapStack (s : State) :
    (popped s).snapStack = s.snapStack := rfl
@[simp] theorem popped_diagMode (s : State) :
    (popped s).diagMode = s.diagMode := rfl
@[simp] theorem popped_returned (s : State) :
    (popped s).returned = s.returned := rfl
@[simp] theorem popped_replies (s : State) :
    (popped s).replies = s.replies := rfl
@[simp] theorem popped_draws (s : State) :
    (popped s).draws = s.draws := rfl
@[simp] theorem popped_hostLog (s : State) :
    (popped s).hostLog = s.hostLog := rfl

/-! ### `countStep` -/

@[simp] theorem countStep_a (s : State) :
    (countStep s).a = s.a := rfl
@[simp] theorem countStep_b (s : State) :
    (countStep s).b = s.b := rfl
@[simp] theorem countStep_c (s : State) :
    (countStep s).c = s.c := rfl
@[simp] theorem countStep_d (s : State) :
    (countStep s).d = s.d := rfl
@[simp] theorem countStep_e (s : State) :
    (countStep s).e = s.e := rfl
@[simp] theorem countStep_h (s : State) :
    (countStep s).h = s.h := rfl
@[simp] theorem countStep_l (s : State) :
    (countStep s).l = s.l := rfl
@[simp] theorem countStep_sp (s : State) :
    (countStep s).sp = s.sp := rfl
@[simp] theorem countStep_pc (s : State) :
    (countStep s).pc = s.pc := rfl
@[simp] theorem countStep_flags (s : State) :
    (countStep s).flags = s.flags := rfl
@[simp] theorem countStep_inte (s : State) :
    (countStep s).inte = s.inte := rfl
@[simp] theorem countStep_hold (s : State) :
    (countStep s).hold = s.hold := rfl
@[simp] theorem countStep_wait (s : State) :
    (countStep s).wait = s.wait := rfl
@[simp] theorem countStep_halted (s : State) :
    (countStep s).halted = s.halted := rfl
@[simp] theorem countStep_cycles (s : State) :
    (countStep s).cycles = s.cycles := rfl
@[simp] theorem countStep_iterations (s : State) :
    (countStep s).iterations = s.iterations + 1 := rfl
@[simp] theorem countStep_mem (s : State) :
    (countStep s).mem = s.mem := rfl
@[simp] theorem countStep_portBytes (s : State) :
    (countStep s).portBytes = s.portBytes := rfl
@[simp] theorem countStep_inHandlers (s : State) :
    (countStep s).inHandlers = s.inHandlers := rfl
@[simp] theorem countStep_outHandlers (s : State) :
    (countStep s).outHandlers = s.outHandlers := rfl
@[simp] theorem countStep_cfg (s : State) :
    (countStep s).cfg = s.cfg := rfl
@[simp] theorem countStep_pendingFault (s : State) :
    (countStep s).pendingFault = s.pendingFault := rfl
@[simp] theorem countStep_snapStack (s : State) :
    (countStep s).snapStack = s.snapStack := rfl
@[simp] theorem countStep_diagMode (s : State) :
    (countStep s).diagMode = s.diagMode := rfl
@[simp] theorem countStep_returned (s : State) :
    (countStep s).returned = s.returned := rfl
@[simp] theorem countStep_replies (s : State) :
    (countStep s).replies = s.replies := rfl
@[simp] theorem countStep_draws (s : State) :
    (countStep s).draws = s.draws := rfl
@[simp] theorem countStep_hostLog (s : State) :
    (countStep s).hostLog = s.hostLog := rfl

/-! ### `pushSnapshot` -/

@[simp] theorem pushSnapshot_a (s : State) :
    (pushSnapshot s).a = s.a := rfl
@[simp] theorem pushSnapshot_b (s : State) :
    (pushSnapshot s).b = s.b := rfl
@[simp] theorem pushSnapshot_c (s : State) :
    (pushSnapshot s).c = s.c := rfl
@[simp] theorem pushSnapshot_d (s : State) :
    (pushSnapshot s).d = s.d := rfl
@[simp] theorem pushSnapshot_e (s : State) :
    (pushSnapshot s).e = s.e := rfl
@[simp] theorem pushSnapshot_h (s : State) :
    (pushSnapshot s).h = s.h := rfl
@[simp] theorem pushSnapshot_l (s : State) :
    (pushSnapshot s).l = s.l := rfl
@[simp] theorem pushSnapshot_sp (s : State) :
    (pushSnapshot s).sp = s.sp := rfl
@[simp] theorem pushSnapshot_pc (s : State) :
    (pushSnapshot s).pc = s.pc := rfl
@[simp] theorem pushSnapshot_flags (s : State) :
    (pushSnapshot s).flags = s.flags := rfl
@[simp] theorem pushSnapshot_inte (s : State) :
    (pushSnapshot s).inte = s.inte := rfl
@[simp] theorem pushSnapshot_hold (s : State) :
    (pushSnapshot s).hold = s.hold := rfl
@[simp] theorem pushSnapshot_wait (s : State) :
    (pushSnapshot s).wait = s.wait := rfl
@[simp] theorem pushSnapshot_halted (s : State) :
    (pushSnapshot s).halted = s.halted := rfl
@[simp] theorem pushSnapshot_cycles (s : State) :
    (pushSnapshot s).cycles = s.cycles := rfl
@[simp] theorem pushSnapshot_iterations (s : State) :
    (pushSnapshot s).iterations = s.iterations := rfl
@[simp] theorem pushSnapshot_mem (s : State) :
    (pushSnapshot s).mem = s.mem := rfl
@[simp] theorem pushSnapshot_portBytes (s : State) :
    (pushSnapshot s).portBytes = s.portBytes := rfl
@[simp] theorem pushSnapshot_inHandlers (s : State) :
    (pushSnapshot s).inHandlers = s.inHandlers := rfl
@[simp] theorem pushSnapshot_outHandlers (s : State) :
    (pushSnapshot s).outHandlers = s.outHandlers := rfl
@[simp] theorem pushSnapshot_cfg (s : State) :
    (pushSnapshot s).cfg = s.cfg := rfl
@[simp] theorem pushSnapshot_pendingFault (s : State) :
    (pushSnapshot s).pendingFault = s.pendingFault := rfl
@[simp] theorem pushSnapshot_snapStack (s : State) :
    (pushSnapshot s).snapStack = s.snapshot :: s.snapStack := rfl
@[simp] theorem pushSnapshot_diagMode (s : State) :
    (pushSnapshot s).diagMode = s.diagMode := rfl
@[simp] theorem pushSnapshot_returned (s : State) :
    (pushSnapshot s).returned = s.returned := rfl
@[simp] theorem pushSnapshot_replies (s : State) :
    (pushSnapshot s).replies = s.replies := rfl
@[simp] theorem pushSnapshot_draws (s : State) :
    (pushSnapshot s).draws = s.draws := rfl
@[simp] theorem pushSnapshot_hostLog (s : State) :
    (pushSnapshot s).hostLog = s.hostLog := rfl

/-! ### `diagPrint` -/

@[simp] theorem diagPrint_a (s : State) :
    (diagPrint s).a = s.a := rfl
@[simp] theorem diagPrint_b (s : State) :
    (diagPrint s).b = s.b := rfl
@[simp] theorem diagPrint_c (s : State) :
    (diagPrint s).c = s.c := rfl
@[simp] theorem diagPrint_d (s : State) :
    (diagPrint s).d = s.d := rfl
@[simp] theorem diagPrint_e (s : State) :
    (diagPrint s).e = s.e := rfl
@[simp] theorem diagPrint_h (s : State) :
    (diagPrint s).h = s.h := rfl
@[simp] theorem diagPrint_l (s : State) :
    (diagPrint s).l = s.l := rfl
@[simp] theorem diagPrint_sp (s : State) :
    (diagPrint s).sp = s.sp := rfl
@[simp] theorem diagPrint_pc (s : State) :
    (diagPrint s).pc = s.pc := rfl
@[simp] theorem diagPrint_flags (s : State) :
    (diagPrint s).flags = s.flags := rfl
@[simp] theorem diagPrint_inte (s : State) :
    (diagPrint s).inte = s.inte := rfl
@[simp] theorem diagPrint_hold (s : State) :
    (diagPrint s).hold = s.hold := rfl
@[simp] theorem diagPrint_wait (s : State) :
    (diagPrint s).wait = s.wait := rfl
@[simp] theorem diagPrint_halted (s : State) :
    (diagPrint s).halted = s.halted := rfl
@[simp] theorem diagPrint_cycles (s : State) :
    (diagPrint s).cycles = s.cycles := rfl
@[simp] theorem diagPrint_iterations (s : State) :
    (diagPrint s).iterations = s.iterations := rfl
@[simp] theorem diagPrint_mem (s : State) :
    (diagPrint s).mem = s.mem := rfl
@[simp] theorem diagPrint_portBytes (s : State) :
    (diagPrint s).portBytes = s.portBytes := rfl
@[simp] theorem diagPrint_inHandlers (s : State) :
    (diagPrint s).inHandlers = s.inHandlers := rfl
@[simp] theorem diagPrint_outHandlers (s : State) :
    (diagPrint s).outHandlers = s.outHandlers := rfl
@[simp] theorem diagPrint_cfg (s : State) :
    (diagPrint s).cfg = s.cfg := rfl
@[simp] theorem diagPrint_pendingFault (s : State) :
    (diagPrint s).pendingFault = s.pendingFault := rfl
@[simp] theorem diagPrint_snapStack (s : State) :
    (diagPrint s).snapStack = s.snapStack := rfl
@[simp] theorem diagPrint_diagMode (s : State) :
    (diagPrint s).diagMode = s.diagMode := rfl
@[simp] theorem diagPrint_returned (s : State) :
    (diagPrint s).returned = s.returned := rfl
@[simp] theorem diagPrint_replies (s : State) :
    (diagPrint s).replies = s.replies := rfl
@[simp] theorem diagPrint_draws (s : State) :
    (diagPrint s).draws = s.draws := rfl
@[simp] theorem diagPrint_hostLog (s : State) :
    (diagPrint s).hostLog = .diagPrint s.c s.de s.mem :: s.hostLog := rfl

/-! ### `restore` -/

@[simp] theorem restore_a (s : State) (x : Snapshot) :
    (s.restore x).a = x.a := rfl
@[simp] theorem restore_b (s : State) (x : Snapshot) :
    (s.restore x).b = hiByte x.bc := rfl
@[simp] theorem restore_c (s : State) (x : Snapshot) :
    (s.restore x).c = loByte x.bc := rfl
@[simp] theorem restore_d (s : State) (x : Snapshot) :
    (s.restore x).d = hiByte x.de := rfl
@[simp] theorem restore_e (s : State) (x : Snapshot) :
    (s.restore x).e = loByte x.de := rfl
@[simp] theorem restore_h (s : State) (x : Snapshot) :
    (s.restore x).h = hiByte x.hl := rfl
@[simp] theorem restore_l (s : State) (x : Snapshot) :
    (s.restore x).l = loByte x.hl := rfl
@[simp] theorem restore_sp (s : State) (x : Snapshot) :
    (s.restore x).sp = x.sp := rfl
@[simp] theorem restore_pc (s : State) (x : Snapshot) :
    (s.restore x).pc = x.pc := rfl
@[simp] theorem restore_flags (s : State) (x : Snapshot) :
    (s.restore x).flags = Flags.unpack x.flagByte := rfl
@[simp] theorem restore_inte (s : State) (x : Snapshot) :
    (s.restore x).inte = x.inte := rfl
@[simp] theorem restore_hold (s : State) (x : Snapshot) :
    (s.restore x).hold = x.hold := rfl
@[simp] theorem restore_wait (s : State) (x : Snapshot) :
    (s.restore x).wait = x.wait := rfl
@[simp] theorem restore_halted (s : State) (x : Snapshot) :
    (s.restore x).halted = s.halted := rfl
@[simp] theorem restore_cycles (s : State) (x : Snapshot) :
    (s.restore x).cycles = x.cycles := rfl
@[simp] theorem restore_iterations (s : State) (x : Snapshot) :
    (s.restore x).iterations = s.iterations := rfl
@[simp] theorem restore_mem (s : State) (x : Snapshot) :
    (s.restore x).mem = x.mem := rfl
@[simp] theorem restore_portBytes (s : State) (x : Snapshot) :
    (s.restore x).portBytes = x.portBytes := rfl
@[simp] theorem restore_inHandlers (s : State) (x : Snapshot) :
    (s.restore x).inHandlers = s.inHandlers := rfl
@[simp] theorem restore_outHandlers (s : State) (x : Snapshot) :
    (s.restore x).outHandlers = s.outHandlers := rfl
@[simp] theorem restore_cfg (s : State) (x : Snapshot) :
    (s.restore x).cfg = s.cfg := rfl
@[simp] theorem restore_pendingFault (s : State) (x : Snapshot) :
    (s.restore x).pendingFault = s.pendingFault := rfl
@[simp] theorem restore_snapStack (s : State) (x : Snapshot) :
    (s.restore x).snapStack = s.snapStack := rfl
@[simp] theorem restore_diagMode (s : State) (x : Snapshot) :
    (s.restore x).diagMode = s.diagMode := rfl
@[simp] theorem restore_returned (s : State) (x : Snapshot) :
    (s.restore x).returned = s.returned := rfl
@[simp] theorem restore_replies (s : State) (x : Snapshot) :
    (s.restore x).replies = s.replies := rfl
@[simp] theorem restore_draws (s : State) (x : Snapshot) :
    (s.restore x).draws = s.draws := rfl
@[simp] theorem restore_hostLog (s : State) (x : Snapshot) :
    (s.restore x).hostLog = s.hostLog := rfl

/-! ### `markFault` -/

@[simp] theorem markFault_a (pc0 : Word) (f : Fault) :
    (markFault pc0 f).a = f.left.a := rfl
@[simp] theorem markFault_b (pc0 : Word) (f : Fault) :
    (markFault pc0 f).b = f.left.b := rfl
@[simp] theorem markFault_c (pc0 : Word) (f : Fault) :
    (markFault pc0 f).c = f.left.c := rfl
@[simp] theorem markFault_d (pc0 : Word) (f : Fault) :
    (markFault pc0 f).d = f.left.d := rfl
@[simp] theorem markFault_e (pc0 : Word) (f : Fault) :
    (markFault pc0 f).e = f.left.e := rfl
@[simp] theorem markFault_h (pc0 : Word) (f : Fault) :
    (markFault pc0 f).h = f.left.h := rfl
@[simp] theorem markFault_l (pc0 : Word) (f : Fault) :
    (markFault pc0 f).l = f.left.l := rfl
@[simp] theorem markFault_sp (pc0 : Word) (f : Fault) :
    (markFault pc0 f).sp = f.left.sp := rfl
@[simp] theorem markFault_pc (pc0 : Word) (f : Fault) :
    (markFault pc0 f).pc = pc0 + 1 := rfl
@[simp] theorem markFault_flags (pc0 : Word) (f : Fault) :
    (markFault pc0 f).flags = f.left.flags := rfl
@[simp] theorem markFault_inte (pc0 : Word) (f : Fault) :
    (markFault pc0 f).inte = f.left.inte := rfl
@[simp] theorem markFault_hold (pc0 : Word) (f : Fault) :
    (markFault pc0 f).hold = f.left.hold := rfl
@[simp] theorem markFault_wait (pc0 : Word) (f : Fault) :
    (markFault pc0 f).wait = f.left.wait := rfl
@[simp] theorem markFault_halted (pc0 : Word) (f : Fault) :
    (markFault pc0 f).halted = f.left.halted := rfl
@[simp] theorem markFault_cycles (pc0 : Word) (f : Fault) :
    (markFault pc0 f).cycles = f.left.cycles := rfl
@[simp] theorem markFault_iterations (pc0 : Word) (f : Fault) :
    (markFault pc0 f).iterations = f.left.iterations := rfl
@[simp] theorem markFault_mem (pc0 : Word) (f : Fault) :
    (markFault pc0 f).mem = f.left.mem := rfl
@[simp] theorem markFault_portBytes (pc0 : Word) (f : Fault) :
    (markFault pc0 f).portBytes = f.left.portBytes := rfl
@[simp] theorem markFault_inHandlers (pc0 : Word) (f : Fault) :
    (markFault pc0 f).inHandlers = f.left.inHandlers := rfl
@[simp] theorem markFault_outHandlers (pc0 : Word) (f : Fault) :
    (markFault pc0 f).outHandlers = f.left.outHandlers := rfl
@[simp] theorem markFault_cfg (pc0 : Word) (f : Fault) :
    (markFault pc0 f).cfg = f.left.cfg := rfl
@[simp] theorem markFault_pendingFault (pc0 : Word) (f : Fault) :
    (markFault pc0 f).pendingFault = true := rfl
@[simp] theorem markFault_snapStack (pc0 : Word) (f : Fault) :
    (markFault pc0 f).snapStack = f.left.snapStack := rfl
@[simp] theorem markFault_diagMode (pc0 : Word) (f : Fault) :
    (markFault pc0 f).diagMode = f.left.diagMode := rfl
@[simp] theorem markFault_returned (pc0 : Word) (f : Fault) :
    (markFault pc0 f).returned = 1 := rfl
@[simp] theorem markFault_replies (pc0 : Word) (f : Fault) :
    (markFault pc0 f).replies = f.left.replies := rfl
@[simp] theorem markFault_draws (pc0 : Word) (f : Fault) :
    (markFault pc0 f).draws = f.left.draws := rfl
@[simp] theorem markFault_hostLog (pc0 : Word) (f : Fault) :
    (markFault pc0 f).hostLog = .faultReport f.cause :: f.left.hostLog := rfl

/-! ### `retryState` -/

@[simp] theorem retryState_a (x : Snapshot) (rest : List Snapshot) (s : State) :
    (retryState x rest s).a = x.a := rfl
@[simp] theorem retryState_b (x : Snapshot) (rest : List Snapshot) (s : State) :
    (retryState x rest s).b = hiByte x.bc := rfl
@[simp] theorem retryState_c (x : Snapshot) (rest : List Snapshot) (s : State) :
    (retryState x rest s).c = loByte x.bc := rfl
@[simp] theorem retryState_d (x : Snapshot) (rest : List Snapshot) (s : State) :
    (retryState x rest s).d = hiByte x.de := rfl
@[simp] theorem retryState_e (x : Snapshot) (rest : List Snapshot) (s : State) :
    (retryState x rest s).e = loByte x.de := rfl
@[simp] theorem retryState_h (x : Snapshot) (rest : List Snapshot) (s : State) :
    (retryState x rest s).h = hiByte x.hl := rfl
@[simp] theorem retryState_l (x : Snapshot) (rest : List Snapshot) (s : State) :
    (retryState x rest s).l = loByte x.hl := rfl
@[simp] theorem retryState_sp (x : Snapshot) (rest : List Snapshot) (s : State) :
    (retryState x rest s).sp = x.sp := rfl
@[simp] theorem retryState_pc (x : Snapshot) (rest : List Snapshot) (s : State) :
    (retryState x rest s).pc = x.pc := rfl
@[simp] theorem retryState_flags (x : Snapshot) (rest : List Snapshot) (s : State) :
    (retryState x rest s).flags = Flags.unpack x.flagByte := rfl
@[simp] theorem retryState_inte (x : Snapshot) (rest : List Snapshot) (s : State) :
    (retryState x rest s).inte = x.inte := rfl
@[simp] theorem retryState_hold (x : Snapshot) (rest : List Snapshot) (s : State) :
    (retryState x rest s).hold = x.hold := rfl
@[simp] theorem retryState_wait (x : Snapshot) (rest : List Snapshot) (s : State) :
    (retryState x rest s).wait = x.wait := rfl
@[simp] theorem retryState_halted (x : Snapshot) (rest : List Snapshot) (s : State) :
    (retryState x rest s).halted = s.halted := rfl
@[simp] theorem retryState_cycles (x : Snapshot) (rest : List Snapshot) (s : State) :
    (retryState x rest s).cycles = x.cycles := rfl
@[simp] theorem retryState_iterations (x : Snapshot) (rest : List Snapshot) (s : State) :
    (retryState x rest s).iterations = s.iterations := rfl
@[simp] theorem retryState_mem (x : Snapshot) (rest : List Snapshot) (s : State) :
    (retryState x rest s).mem = x.mem := rfl
@[simp] theorem retryState_portBytes (x : Snapshot) (rest : List Snapshot) (s : State) :
    (retryState x rest s).portBytes = x.portBytes := rfl
@[simp] theorem retryState_inHandlers (x : Snapshot) (rest : List Snapshot) (s : State) :
    (retryState x rest s).inHandlers = s.inHandlers := rfl
@[simp] theorem retryState_outHandlers (x : Snapshot) (rest : List Snapshot) (s : State) :
    (retryState x rest s).outHandlers = s.outHandlers := rfl
@[simp] theorem retryState_cfg (x : Snapshot) (rest : List Snapshot) (s : State) :
    (retryState x rest s).cfg = s.cfg := rfl
@[simp] theorem retryState_pendingFault (x : Snapshot) (rest : List Snapshot) (s : State) :
    (retryState x rest s).pendingFault = false := rfl
@[simp] theorem retryState_snapStack (x : Snapshot) (rest : List Snapshot) (s : State) :
    (retryState x rest s).snapStack = rest := rfl
@[simp] theorem retryState_diagMode (x : Snapshot) (rest : List Snapshot) (s : State) :
    (retryState x rest s).diagMode = s.diagMode := rfl
@[simp] theorem retryState_returned (x : Snapshot) (rest : List Snapshot) (s : State) :
    (retryState x rest s).returned = s.returned := rfl
@[simp] theorem retryState_replies (x : Snapshot) (rest : List Snapshot) (s : State) :
    (retryState x rest s).replies = s.replies := rfl
@[simp] theorem retryState_draws (x : Snapshot) (rest : List Snapshot) (s : State) :
    (retryState x rest s).draws = s.draws := rfl
@[simp] theorem retryState_hostLog (x : Snapshot) (rest : List Snapshot) (s : State) :
    (retryState x rest s).hostLog = .retryReport x.pc (fetchInstr x.mem x.pc) :: s.hostLog := rfl

/-! ### `setBc` -/

@[simp] theorem setBc_a (s : State) (v : Word) :
    (s.setBc v).a = s.a := rfl
@[simp] theorem setBc_b (s : State) (v : Word) :
    (s.setBc v).b = hiByte v := rfl
@[simp] theorem setBc_c (s : State) (v : Word) :
    (s.setBc v).c = loByte v := rfl
@[simp] theorem setBc_d (s : State) (v : Word) :
    (s.setBc v).d = s.d := rfl
@[simp] theorem setBc_e (s : State) (v : Word) :
    (s.setBc v).e = s.e := rfl
@[simp] theorem setBc_h (s : State) (v : Word) :
    (s.setBc v).h = s.h := rfl
@[simp] theorem setBc_l (s : State) (v : Word) :
    (s.setBc v).l = s.l := rfl
@[simp] theorem setBc_sp (s : State) (v : Word) :
    (s.setBc v).sp = s.sp := rfl
@[simp] theorem setBc_pc (s : State) (v : Word) :
    (s.setBc v).pc = s.pc := rfl
@[simp] theorem setBc_flags (s : State) (v : Word) :
    (s.setBc v).flags = s.flags := rfl
@[simp] theorem setBc_inte (s : State) (v : Word) :
    (s.setBc v).inte = s.inte := rfl
@[simp] theorem setBc_hold (s : State) (v : Word) :
    (s.setBc v).hold = s.hold := rfl
@[simp] theorem setBc_wait (s : State) (v : Word) :
    (s.setBc v).wait = s.wait := rfl
@[simp] theorem setBc_halted (s : State) (v : Word) :
    (s.setBc v).halted = s.halted := rfl
@[simp] theorem setBc_cycles (s : State) (v : Word) :
    (s.setBc v).cycles = s.cycles := rfl
@[simp] theorem setBc_iterations (s : State) (v : Word) :
    (s.setBc v).iterations = s.iterations := rfl
@[simp] theorem setBc_mem (s : State) (v : Word) :
    (s.setBc v).mem = s.mem := rfl
@[simp] theorem setBc_portBytes (s : State) (v : Word) :
    (s.setBc v).portBytes = s.portBytes := rfl
@[simp] theorem setBc_inHandlers (s : State) (v : Word) :
    (s.setBc v).inHandlers = s.inHandlers := rfl
@[simp] theorem setBc_outHandlers (s : State) (v : Word) :
    (s.setBc v).outHandlers = s.outHandlers := rfl
@[simp] theorem setBc_cfg (s : State) (v : Word) :
    (s.setBc v).cfg = s.cfg := rfl
@[simp] theorem setBc_pendingFault (s : State) (v : Word) :
    (s.setBc v).pendingFault = s.pendingFault := rfl
@[simp] theorem setBc_snapStack (s : State) (v : Word) :
    (s.setBc v).snapStack = s.snapStack := rfl
@[simp] theorem setBc_diagMode (s : State) (v : Word) :
    (s.setBc v).diagMode = s.diagMode := rfl
@[simp] theorem setBc_returned (s : State) (v : Word) :
    (s.setBc v).returned = s.returned := rfl
@[simp] theorem setBc_replies (s : State) (v : Word) :
    (s.setBc v).replies = s.replies := rfl
@[simp] theorem setBc_draws (s : State) (v : Word) :
    (s.setBc v).draws = s.draws := rfl
@[simp] theorem setBc_hostLog (s : State) (v : Word) :
    (s.setBc v).hostLog = s.hostLog := rfl

/-! ### `setDe` -/

@[simp] theorem setDe_a (s : State) (v : Word) :
    (s.setDe v).a = s.a := rfl
@[simp] theorem setDe_b (s : State) (v : Word) :
    (s.setDe v).b = s.b := rfl
@[simp] theorem setDe_c (s : State) (v : Word) :
    (s.setDe v).c = s.c := rfl
@[simp] theorem setDe_d (s : State) (v : Word) :
    (s.setDe v).d = hiByte v := rfl
@[simp] theorem setDe_e (s : State) (v : Word) :
    (s.setDe v).e = loByte v := rfl
@[simp] theorem setDe_h (s : State) (v : Word) :
    (s.setDe v).h = s.h := rfl
@[simp] theorem setDe_l (s : State) (v : Word) :
    (s.setDe v).l = s.l := rfl
@[simp] theorem setDe_sp (s : State) (v : Word) :
    (s.setDe v).sp = s.sp := rfl
@[simp] theorem setDe_pc (s : State) (v : Word) :
    (s.setDe v).pc = s.pc := rfl
@[simp] theorem setDe_flags (s : State) (v : Word) :
    (s.setDe v).flags = s.flags := rfl
@[simp] theorem setDe_inte (s : State) (v : Word) :
    (s.setDe v).inte = s.inte := rfl
@[simp] theorem setDe_hold (s : State) (v : Word) :
    (s.setDe v).hold = s.hold := rfl
@[simp] theorem setDe_wait (s : State) (v : Word) :
    (s.setDe v).wait = s.wait := rfl
@[simp] theorem setDe_halted (s : State) (v : Word) :
    (s.setDe v).halted = s.halted := rfl
@[simp] theorem setDe_cycles (s : State) (v : Word) :
    (s.setDe v).cycles = s.cycles := rfl
@[simp] theorem setDe_iterations (s : State) (v : Word) :
    (s.setDe v).iterations = s.iterations := rfl
@[simp] theorem setDe_mem (s : State) (v : Word) :
    (s.setDe v).mem = s.mem := rfl
@[simp] theorem setDe_portBytes (s : State) (v : Word) :
    (s.setDe v).portBytes = s.portBytes := rfl
@[simp] theorem setDe_inHandlers (s : State) (v : Word) :
    (s.setDe v).inHandlers = s.inHandlers := rfl
@[simp] theorem setDe_outHandlers (s : State) (v : Word) :
    (s.setDe v).outHandlers = s.outHandlers := rfl
@[simp] theorem setDe_cfg (s : State) (v : Word) :
    (s.setDe v).cfg = s.cfg := rfl
@[simp] theorem setDe_pendingFault (s : State) (v : Word) :
    (s.setDe v).pendingFault = s.pendingFault := rfl
@[simp] theorem setDe_snapStack (s : State) (v : Word) :
    (s.setDe v).snapStack = s.snapStack := rfl
@[simp] theorem setDe_diagMode (s : State) (v : Word) :
    (s.setDe v).diagMode = s.diagMode := rfl
@[simp] theorem setDe_returned (s : State) (v : Word) :
    (s.setDe v).returned = s.returned := rfl
@[simp] theorem setDe_replies (s : State) (v : Word) :
    (s.setDe v).replies = s.replies := rfl
@[simp] theorem setDe_draws (s : State) (v : Word) :
    (s.setDe v).draws = s.draws := rfl
@[simp] theorem setDe_hostLog (s : State) (v : Word) :
    (s.setDe v).hostLog = s.hostLog := rfl

/-! ### `setHl` -/

@[simp] theorem setHl_a (s : State) (v : Word) :
    (s.setHl v).a = s.a := rfl
@[simp] theorem setHl_b (s : State) (v : Word) :
    (s.setHl v).b = s.b := rfl
@[simp] theorem setHl_c (s : State) (v : Word) :
    (s.setHl v).c = s.c := rfl
@[simp] theorem setHl_d (s : State) (v : Word) :
    (s.setHl v).d = s.d := rfl
@[simp] theorem setHl_e (s : State) (v : Word) :
    (s.setHl v).e = s.e := rfl
@[simp] theorem setHl_h (s : State) (v : Word) :
    (s.setHl v).h = hiByte v := rfl
@[simp] theorem setHl_l (s : State) (v : Word) :
    (s.setHl v).l = loByte v := rfl
@[simp] theorem setHl_sp (s : State) (v : Word) :
    (s.setHl v).sp = s.sp := rfl
@[simp] theorem setHl_pc (s : State) (v : Word) :
    (s.setHl v).pc = s.pc := rfl
@[simp] theorem setHl_flags (s : State) (v : Word) :
    (s.setHl v).flags = s.flags := rfl
@[simp] theorem setHl_inte (s : State) (v : Word) :
    (s.setHl v).inte = s.inte := rfl
@[simp] theorem setHl_hold (s : State) (v : Word) :
    (s.setHl v).hold = s.hold := rfl
@[simp] theorem setHl_wait (s : State) (v : Word) :
    (s.setHl v).wait = s.wait := rfl
@[simp] theorem setHl_halted (s : State) (v : Word) :
    (s.setHl v).halted = s.halted := rfl
@[simp] theorem setHl_cycles (s : State) (v : Word) :
    (s.setHl v).cycles = s.cycles := rfl
@[simp] theorem setHl_iterations (s : State) (v : Word) :
    (s.setHl v).iterations = s.iterations := rfl
@[simp] theorem setHl_mem (s : State) (v : Word) :
    (s.setHl v).mem = s.mem := rfl
@[simp] theorem setHl_portBytes (s : State) (v : Word) :
    (s.setHl v).portBytes = s.portBytes := rfl
@[simp] theorem setHl_inHandlers (s : State) (v : Word) :
    (s.setHl v).inHandlers = s.inHandlers := rfl
@[simp] theorem setHl_outHandlers (s : State) (v : Word) :
    (s.setHl v).outHandlers = s.outHandlers := rfl
@[simp] theorem setHl_cfg (s : State) (v : Word) :
    (s.setHl v).cfg = s.cfg := rfl
@[simp] theorem setHl_pendingFault (s : State) (v : Word) :
    (s.setHl v).pendingFault = s.pendingFault := rfl
@[simp] theorem setHl_snapStack (s : State) (v : Word) :
    (s.setHl v).snapStack = s.snapStack := rfl
@[simp] theorem setHl_diagMode (s : State) (v : Word) :
    (s.setHl v).diagMode = s.diagMode := rfl
@[simp] theorem setHl_returned (s : State) (v : Word) :
    (s.setHl v).returned = s.returned := rfl
@[simp] theorem setHl_replies (s : State) (v : Word) :
    (s.setHl v).replies = s.replies := rfl
@[simp] theorem setHl_draws (s : State) (v : Word) :
    (s.setHl v).draws = s.draws := rfl
@[simp] theorem setHl_hostLog (s : State) (v : Word) :
    (s.setHl v).hostLog = s.hostLog := rfl

/-! ### `setReg`: everything but the register file -/

@[simp] theorem setReg_sp (s : State) (r : Reg) (v : Byte) :
    (s.setReg r v).sp = s.sp := by cases r <;> rfl
@[simp] theorem setReg_pc (s : State) (r : Reg) (v : Byte) :
    (s.setReg r v).pc = s.pc := by cases r <;> rfl
@[simp] theorem setReg_flags (s : State) (r : Reg) (v : Byte) :
    (s.setReg r v).flags = s.flags := by cases r <;> rfl
@[simp] theorem setReg_inte (s : State) (r : Reg) (v : Byte) :
    (s.setReg r v).inte = s.inte := by cases r <;> rfl
@[simp] theorem setReg_hold (s : State) (r : Reg) (v : Byte) :
    (s.setReg r v).hold = s.hold := by cases r <;> rfl
@[simp] theorem setReg_wait (s : State) (r : Reg) (v : Byte) :
    (s.setReg r v).wait = s.wait := by cases r <;> rfl
@[simp] theorem setReg_halted (s : State) (r : Reg) (v : Byte) :
    (s.setReg r v).halted = s.halted := by cases r <;> rfl
@[simp] theorem setReg_cycles (s : State) (r : Reg) (v : Byte) :
    (s.setReg r v).cycles = s.cycles := by cases r <;> rfl
@[simp] theorem setReg_iterations (s : State) (r : Reg) (v : Byte) :
    (s.setReg r v).iterations = s.iterations := by cases r <;> rfl
@[simp] theorem setReg_mem (s : State) (r : Reg) (v : Byte) :
    (s.setReg r v).mem = s.mem := by cases r <;> rfl
@[simp] theorem setReg_portBytes (s : State) (r : Reg) (v : Byte) :
    (s.setReg r v).portBytes = s.portBytes := by cases r <;> rfl
@[simp] theorem setReg_inHandlers (s : State) (r : Reg) (v : Byte) :
    (s.setReg r v).inHandlers = s.inHandlers := by cases r <;> rfl
@[simp] theorem setReg_outHandlers (s : State) (r : Reg) (v : Byte) :
    (s.setReg r v).outHandlers = s.outHandlers := by cases r <;> rfl
@[simp] theorem setReg_cfg (s : State) (r : Reg) (v : Byte) :
    (s.setReg r v).cfg = s.cfg := by cases r <;> rfl
@[simp] theorem setReg_pendingFault (s : State) (r : Reg) (v : Byte) :
    (s.setReg r v).pendingFault = s.pendingFault := by cases r <;> rfl
@[simp] theorem setReg_snapStack (s : State) (r : Reg) (v : Byte) :
    (s.setReg r v).snapStack = s.snapStack := by cases r <;> rfl
@[simp] theorem setReg_diagMode (s : State) (r : Reg) (v : Byte) :
    (s.setReg r v).diagMode = s.diagMode := by cases r <;> rfl
@[simp] theorem setReg_returned (s : State) (r : Reg) (v : Byte) :
    (s.setReg r v).returned = s.returned := by cases r <;> rfl
@[simp] theorem setReg_replies (s : State) (r : Reg) (v : Byte) :
    (s.setReg r v).replies = s.replies := by cases r <;> rfl
@[simp] theorem setReg_draws (s : State) (r : Reg) (v : Byte) :
    (s.setReg r v).draws = s.draws := by cases r <;> rfl
@[simp] theorem setReg_hostLog (s : State) (r : Reg) (v : Byte) :
    (s.setReg r v).hostLog = s.hostLog := by cases r <;> rfl

/-! ### `setPair`: everything but the register file -/

@[simp] theorem setPair_a (s : State) (r : Pair) (v : Word) :
    (s.setPair r v).a = s.a := by cases r <;> rfl
@[simp] theorem setPair_sp (s : State) (r : Pair) (v : Word) :
    (s.setPair r v).sp = s.sp := by cases r <;> rfl
@[simp] theorem setPair_pc (s : State) (r : Pair) (v : Word) :
    (s.setPair r v).pc = s.pc := by cases r <;> rfl
@[simp] theorem setPair_flags (s : State) (r : Pair) (v : Word) :
    (s.setPair r v).flags = s.flags := by cases r <;> rfl
@[simp] theorem setPair_inte (s : State) (r : Pair) (v : Word) :
    (s.setPair r v).inte = s.inte := by cases r <;> rfl
@[simp] theorem setPair_hold (s : State) (r : Pair) (v : Word) :
    (s.setPair r v).hold = s.hold := by cases r <;> rfl
@[simp] theorem setPair_wait (s : State) (r : Pair) (v : Word) :
    (s.setPair r v).wait = s.wait := by cases r <;> rfl
@[simp] theorem setPair_halted (s : State) (r : Pair) (v : Word) :
    (s.setPair r v).halted = s.halted := by cases r <;> rfl
@[simp] theorem setPair_cycles (s : State) (r : Pair) (v : Word) :
    (s.setPair r v).cycles = s.cycles := by cases r <;> rfl
@[simp] theorem setPair_iterations (s : State) (r : Pair) (v : Word) :
    (s.setPair r v).iterations = s.iterations := by cases r <;> rfl
@[simp] theorem setPair_mem (s : State) (r : Pair) (v : Word) :
    (s.setPair r v).mem = s.mem := by cases r <;> rfl
@[simp] theorem setPair_portBytes (s : State) (r : Pair) (v : Word) :
    (s.setPair r v).portBytes = s.portBytes := by cases r <;> rfl
@[simp] theorem setPair_inHandlers (s : State) (r : Pair) (v : Word) :
    (s.setPair r v).inHandlers = s.inHandlers := by cases r <;> rfl
@[simp] theorem setPair_outHandlers (s : State) (r : Pair) (v : Word) :
    (s.setPair r v).outHandlers = s.outHandlers := by cases r <;> rfl
@[simp] theorem setPair_cfg (s : State) (r : Pair) (v : Word) :
    (s.setPair r v).cfg = s.cfg := by cases r <;> rfl
@[simp] theorem setPair_pendingFault (s : State) (r : Pair) (v : Word) :
    (s.setPair r v).pendingFault = s.pendingFault := by cases r <;> rfl
@[simp] theorem setPair_snapStack (s : State) (r : Pair) (v : Word) :
    (s.setPair r v).snapStack = s.snapStack := by cases r <;> rfl
@[simp] theorem setPair_diagMode (s : State) (r : Pair) (v : Word) :
    (s.setPair r v).diagMode = s.diagMode := by cases r <;> rfl
@[simp] theorem setPair_returned (s : State) (r : Pair) (v : Word) :
    (s.setPair r v).returned = s.returned := by cases r <;> rfl
@[simp] theorem setPair_replies (s : State) (r : Pair) (v : Word) :
    (s.setPair r v).replies = s.replies := by cases r <;> rfl
@[simp] theorem setPair_draws (s : State) (r : Pair) (v : Word) :
    (s.setPair r v).draws = s.draws := by cases r <;> rfl
@[simp] theorem setPair_hostLog (s : State) (r : Pair) (v : Word) :
    (s.setPair r v).hostLog = s.hostLog := by cases r <;> rfl

/-! ### `setSpPair`: everything but the register file -/

@[simp] theorem setSpPair_a (s : State) (r : SpPair) (v : Word) :
    (s.setSpPair r v).a = s.a := by cases r <;> rfl
@[simp] theorem setSpPair_pc (s : State) (r : SpPair) (v : Word) :
    (s.setSpPair r v).pc = s.pc := by cases r <;> rfl
@[simp] theorem setSpPair_flags (s : State) (r : SpPair) (v : Word) :
    (s.setSpPair r v).flags = s.flags := by cases r <;> rfl
@[simp] theorem setSpPair_inte (s : State) (r : SpPair) (v : Word) :
    (s.setSpPair r v).inte = s.inte := by cases r <;> rfl
@[simp] theorem setSpPair_hold (s : State) (r : SpPair) (v : Word) :
    (s.setSpPair r v).hold = s.hold := by cases r <;> rfl
@[simp] theorem setSpPair_wait (s : State) (r : SpPair) (v : Word) :
    (s.setSpPair r v).wait = s.wait := by cases r <;> rfl
@[simp] theorem setSpPair_halted (s : State) (r : SpPair) (v : Word) :
    (s.setSpPair r v).halted = s.halted := by cases r <;> rfl
@[simp] theorem setSpPair_cycles (s : State) (r : SpPair) (v : Word) :
    (s.setSpPair r v).cycles = s.cycles := by cases r <;> rfl
@[simp] theorem setSpPair_iterations (s : State) (r : SpPair) (v : Word) :
    (s.setSpPair r v).iterations = s.iterations := by cases r <;> rfl
@[simp] theorem setSpPair_mem (s : State) (r : SpPair) (v : Word) :
    (s.setSpPair r v).mem = s.mem := by cases r <;> rfl
@[simp] theorem setSpPair_portBytes (s : State) (r : SpPair) (v : Word) :
    (s.setSpPair r v).portBytes = s.portBytes := by cases r <;> rfl
@[simp] theorem setSpPair_inHandlers (s : State) (r : SpPair) (v : Word) :
    (s.setSpPair r v).inHandlers = s.inHandlers := by cases r <;> rfl
@[simp] theorem setSpPair_outHandlers (s : State) (r : SpPair) (v : Word) :
    (s.setSpPair r v).outHandlers = s.outHandlers := by cases r <;> rfl
@[simp] theorem setSpPair_cfg (s : State) (r : SpPair) (v : Word) :
    (s.setSpPair r v).cfg = s.cfg := by cases r <;> rfl
@[simp] theorem setSpPair_pendingFault (s : State) (r : SpPair) (v : Word) :
    (s.setSpPair r v).pendingFault = s.pendingFault := by cases r <;> rfl
@[simp] theorem setSpPair_snapStack (s : State) (r : SpPair) (v : Word) :
    (s.setSpPair r v).snapStack = s.snapStack := by cases r <;> rfl
@[simp] theorem setSpPair_diagMode (s : State) (r : SpPair) (v : Word) :
    (s.setSpPair r v).diagMode = s.diagMode := by cases r <;> rfl
@[simp] theorem setSpPair_returned (s : State) (r : SpPair) (v : Word) :
    (s.setSpPair r v).returned = s.returned := by cases r <;> rfl
@[simp] theorem setSpPair_replies (s : State) (r : SpPair) (v : Word) :
    (s.setSpPair r v).replies = s.replies := by cases r <;> rfl
@[simp] theorem setSpPair_draws (s : State) (r : SpPair) (v : Word) :
    (s.setSpPair r v).draws = s.draws := by cases r <;> rfl
@[simp] theorem setSpPair_hostLog (s : State) (r : SpPair) (v : Word) :
    (s.setSpPair r v).hostLog = s.hostLog := by cases r <;> rfl

/-! ### `useReply` and `callHandler` -/

@[simp] theorem useReply_a (s : State) :
    (useReply s).a = s.a := by unfold useReply; split <;> rfl
@[simp] theorem useReply_b (s : State) :
    (useReply s).b = s.b := by unfold useReply; split <;> rfl
@[simp] theorem useReply_c (s : State) :
    (useReply s).c = s.c := by unfold useReply; split <;> rfl
@[simp] theorem useReply_d (s : State) :
    (useReply s).d = s.d := by unfold useReply; split <;> rfl
@[simp] theorem useReply_e (s : State) :
    (useReply s).e = s.e := by unfold useReply; split <;> rfl
@[simp] theorem useReply_h (s : State) :
    (useReply s).h = s.h := by unfold useReply; split <;> rfl
@[simp] theorem useReply_l (s : State) :
    (useReply s).l = s.l := by unfold useReply; split <;> rfl
@[simp] theorem useReply_sp (s : State) :
    (useReply s).sp = s.sp := by unfold useReply; split <;> rfl
@[simp] theorem useReply_pc (s : State) :
    (useReply s).pc = s.pc := by unfold useReply; split <;> rfl
@[simp] theorem useReply_flags (s : State) :
    (useReply s).flags = s.flags := by unfold useReply; split <;> rfl
@[simp] theorem useReply_inte (s : State) :
    (useReply s).inte = s.inte := by unfold useReply; split <;> rfl
@[simp] theorem useReply_hold (s : State) :
    (useReply s).hold = s.hold := by unfold useReply; split <;> rfl
@[simp] theorem useReply_wait (s : State) :
    (useReply s).wait = s.wait := by unfold useReply; split <;> rfl
@[simp] theorem useReply_halted (s : State) :
    (useReply s).halted = s.halted := by unfold useReply; split <;> rfl
@[simp] theorem useReply_cycles (s : State) :
    (useReply s).cycles = s.cycles := by unfold useReply; split <;> rfl
@[simp] theorem useReply_iterations (s : State) :
    (useReply s).iterations = s.iterations := by unfold useReply; split <;> rfl
@[simp] theorem useReply_mem (s : State) :
    (useReply s).mem = s.mem := by unfold useReply; split <;> rfl
@[simp] theorem useReply_portBytes (s : State) :
    (useReply s).portBytes = s.portBytes := by unfold useReply; split <;> rfl
@[simp] theorem useReply_inHandlers (s : State) :
    (useReply s).inHandlers = s.inHandlers := by unfold useReply; split <;> rfl
@[simp] theorem useReply_outHandlers (s : State) :
    (useReply s).outHandlers = s.outHandlers := by unfold useReply; split <;> rfl
@[simp] theorem useReply_cfg (s : State) :
    (useReply s).cfg = s.cfg := by unfold useReply; split <;> rfl
@[simp] theorem useReply_pendingFault (s : State) :
    (useReply s).pendingFault = s.pendingFault := by unfold useReply; split <;> rfl
@[simp] theorem useReply_snapStack (s : State) :
    (useReply s).snapStack = s.snapStack := by unfold useReply; split <;> rfl
@[simp] theorem useReply_diagMode (s : State) :
    (useReply s).diagMode = s.diagMode := by unfold useReply; split <;> rfl
@[simp] theorem useReply_returned (s : State) :
    (useReply s).returned = s.returned := by unfold useReply; split <;> rfl
@[simp] theorem useReply_hostLog (s : State) :
    (useReply s).hostLog = s.hostLog := by unfold useReply; split <;> rfl

@[simp] theorem callHandler_a (ev : HostEvent) (s : State) :
    (callHandler ev s).a = s.a := useReply_a s
@[simp] theorem callHandler_b (ev : HostEvent) (s : State) :
    (callHandler ev s).b = s.b := useReply_b s
@[simp] theorem callHandler_c (ev : HostEvent) (s : State) :
    (callHandler ev s).c = s.c := useReply_c s
@[simp] theorem callHandler_d (ev : HostEvent) (s : State) :
    (callHandler ev s).d = s.d := useReply_d s
@[simp] theorem callHandler_e (ev : HostEvent) (s : State) :
    (callHandler ev s).e = s.e := useReply_e s
@[simp] theorem callHandler_h (ev : HostEvent) (s : State) :
    (callHandler ev s).h = s.h := useReply_h s
@[simp] theorem callHandler_l (ev : HostEvent) (s : State) :
    (callHandler ev s).l = s.l := useReply_l s
@[simp] theorem callHandler_sp (ev : HostEvent) (s : State) :
    (callHandler ev s).sp = s.sp := useReply_sp s
@[simp] theorem callHandler_pc (ev : HostEvent) (s : State) :
    (callHandler ev s).pc = s.pc := useReply_pc s
@[simp] theorem callHandler_flags (ev : HostEvent) (s : State) :
    (callHandler ev s).flags = s.flags := useReply_flags s
@[simp] theorem callHandler_inte (ev : HostEvent) (s : State) :
    (callHandler ev s).inte = s.inte := useReply_inte s
@[simp] theorem callHandler_hold (ev : HostEvent) (s : State) :
    (callHandler ev s).hold = s.hold := useReply_hold s
@[simp] theorem callHandler_wait (ev : HostEvent) (s : State) :
    (callHandler ev s).wait = s.wait := useReply_wait s
@[simp] theorem callHandler_halted (ev : HostEvent) (s : State) :
    (callHandler ev s).halted = s.halted := useReply_halted s
@[simp] theorem callHandler_cycles (ev : HostEvent) (s : State) :
    (callHandler ev s).cycles = s.cycles := useReply_cycles s
@[simp] theorem callHandler_iterations (ev : HostEvent) (s : State) :
    (callHandler ev s).iterations = s.iterations := useReply_iterations s
@[simp] theorem callHandler_mem (ev : HostEvent) (s : State) :
    (callHandler ev s).mem = s.mem := useReply_mem s
@[simp] theorem callHandler_portBytes (ev : HostEvent) (s : State) :
    (callHandler ev s).portBytes = writePorts (nextReply s).portWrites s.portBytes := rfl
@[simp] theorem callHandler_inHandlers (ev : HostEvent) (s : State) :
    (callHandler ev s).inHandlers = s.inHandlers := useReply_inHandlers s
@[simp] theorem callHandler_outHandlers (ev : HostEvent) (s : State) :
    (callHandler ev s).outHandlers = s.outHandlers := useReply_outHandlers s
@[simp] theorem callHandler_cfg (ev : HostEvent) (s : State) :
    (callHandler ev s).cfg = s.cfg := useReply_cfg s
@[simp] theorem callHandler_pendingFault (ev : HostEvent) (s : State) :
    (callHandler ev s).pendingFault = s.pendingFault := useReply_pendingFault s
@[simp] theorem callHandler_snapStack (ev : HostEvent) (s : State) :
    (callHandler ev s).snapStack = s.snapStack := useReply_snapStack s
@[simp] theorem callHandler_diagMode (ev : HostEvent) (s : State) :
    (callHandler ev s).diagMode = s.diagMode := useReply_diagMode s
@[simp] theorem callHandler_returned (ev : HostEvent) (s : State) :
    (callHandler ev s).returned = s.returned := useReply_returned s
@[simp] theorem callHandler_replies (ev : HostEvent) (s : State) :
    (callHandler ev s).replies = (useReply s).replies := rfl
@[simp] theorem callHandler_draws (ev : HostEvent) (s : State) :
    (callHandler ev s).draws = (useReply s).draws := rfl
@[simp] theorem callHandler_hostLog (ev : HostEvent) (s : State) :
    (callHandler ev s).hostLog = ev :: s.hostLog := rfl

/-! ### Reading what was written -/

@[simp] theorem reg_setReg_same (s : State) (r : Reg) (v : Byte) : (s.setReg r v).reg r = v := by
  cases r <;> rfl

/-- Writing one register keeps every other, the other half of its pair too (R14). -/
theorem reg_setReg_other (s : State) {r q : Reg} (v : Byte) (h : q ≠ r) :
    (s.setReg r v).reg q = s.reg q := by
  cases r <;> cases q <;> first | rfl | exact absurd rfl h

@[simp] theorem joinBytes_hi_lo (v : Word) : joinBytes (hiByte v) (loByte v) = v := by
  simp only [joinBytes, hiByte, loByte]
  ext i hi
  simp only [BitVec.getElem_append, BitVec.getElem_extractLsb']
  by_cases h : i < 8
  · simp [h, BitVec.getLsbD_eq_getElem hi]
  · have h8 : 8 + (i - 8) = i := by omega
    simp [h, h8, BitVec.getLsbD_eq_getElem hi]

@[simp] theorem hiByte_join (x y : Byte) : hiByte (joinBytes x y) = x := by
  simp only [joinBytes, hiByte]
  ext i hi
  simp only [BitVec.getElem_extractLsb', BitVec.getLsbD_append]
  have h : ¬ 8 + i < 8 := by omega
  simp [BitVec.getLsbD_eq_getElem hi]

@[simp] theorem loByte_join (x y : Byte) : loByte (joinBytes x y) = y := by
  simp only [joinBytes, loByte]
  ext i hi
  rw [BitVec.getElem_extractLsb', Nat.zero_add, BitVec.getLsbD_append]
  simp [hi]

@[simp] theorem pair_setPair_same (s : State) (p : Pair) (v : Word) : (s.setPair p v).pair p = v := by
  cases p <;> simp [State.setPair, State.pair, State.bc, State.de, State.hl]

@[simp] theorem spPair_setSpPair_same (s : State) (p : SpPair) (v : Word) :
    (s.setSpPair p v).spPair p = v := by
  cases p <;> simp [State.setSpPair, State.spPair, State.bc, State.de, State.hl]

end Sys2Proof.Machine
end

