-- ==== Sys2Proof/Laws/Ops.lean ====
section
/-! SUPPORT. For each shared operation, what it answers and all it can do: the provers cite these instead
of unfolding the operations. -/

namespace Sys2Proof.Machine

/-! ### Sequencing -/

section
variable {α β : Type}

@[simp] theorem andThen_next (x : α) (f : α → ResultOf β) : andThen (.next x) f = f x := rfl

@[simp] theorem andThen_fault (e : Fault) (f : α → ResultOf β) :
    andThen (.fault e) f = .fault e := rfl

@[simp] theorem andThen_refused (e : Refusal) (f : α → ResultOf β) :
    andThen (.refused e) f = .refused e := rfl

/-- A sequence goes on exactly where both parts do. -/
theorem andThen_eq_next {r : ResultOf α} {f : α → ResultOf β} {y : β} :
    andThen r f = .next y ↔ ∃ x, r = .next x ∧ f x = .next y := by
  cases r <;> simp

/-- A sequence faults in its first part or in its second. -/
theorem andThen_eq_fault {r : ResultOf α} {f : α → ResultOf β} {e : Fault} :
    andThen r f = .fault e ↔ r = .fault e ∨ ∃ x, r = .next x ∧ f x = .fault e := by
  cases r <;> simp

theorem andThen_eq_refused {r : ResultOf α} {f : α → ResultOf β} {e : Refusal} :
    andThen r f = .refused e ↔ r = .refused e ∨ ∃ x, r = .next x ∧ f x = .refused e := by
  cases r <;> simp

/-! ### Raising a fault -/

/-- The fault with a given cause and the state it leaves. -/
def faultOf (cause : FaultCause) (left : State) : Fault :=
  match cause with
  | .invalidInstruction pc0 op => .invalidInstruction pc0 op left
  | .readOnlyWrite addr => .readOnlyWrite addr left
  | .mirrorOutOfRange addr => .mirrorOutOfRange addr left
  | .unimplementedInPort port => .unimplementedInPort port left
  | .unimplementedOutPort port => .unimplementedOutPort port left

theorem raise_eq (cause : FaultCause) (s : State) :
    (raise cause s : ResultOf α) = .fault (faultOf cause s) := by
  cases cause <;> rfl

@[simp] theorem faultOf_cause (cause : FaultCause) (s : State) : (faultOf cause s).cause = cause := by
  cases cause <;> rfl

@[simp] theorem faultOf_left (cause : FaultCause) (s : State) : (faultOf cause s).left = s := by
  cases cause <;> rfl

end

/-! ### Byte writes -/

theorem memWrite_of_none {s : State} {a : Word} (v : Byte) (h : writeFault s.cfg a = none) :
    memWrite a v s = .next { s with mem := storeAll v (writeTargets s.cfg a) s.mem } := by
  simp [memWrite, h]

theorem memWrite_of_some {s : State} {a : Word} {cause : FaultCause} (v : Byte)
    (h : writeFault s.cfg a = some cause) : memWrite a v s = .fault (faultOf cause s) := by
  simp [memWrite, h, raise_eq]

/-- A byte write that goes on has passed its check and changed the memory only. -/
theorem memWrite_eq_next {s t : State} {a : Word} {v : Byte} :
    memWrite a v s = .next t ↔
      writeFault s.cfg a = none ∧
        t = { s with mem := storeAll v (writeTargets s.cfg a) s.mem } := by
  cases h : writeFault s.cfg a with
  | none => simp [memWrite_of_none v h, eq_comm]
  | some cause => simp [memWrite_of_some v h]

/-- A byte write that faults has changed nothing. -/
theorem memWrite_eq_fault {s : State} {a : Word} {v : Byte} {f : Fault} :
    memWrite a v s = .fault f ↔
      ∃ cause, writeFault s.cfg a = some cause ∧ f = faultOf cause s := by
  cases h : writeFault s.cfg a with
  | none => simp [memWrite_of_none v h]
  | some cause => simp [memWrite_of_some v h, eq_comm]

theorem memWrite_not_refused (s : State) (a : Word) (v : Byte) (r : Refusal) :
    memWrite a v s ≠ .refused r := by
  cases h : writeFault s.cfg a with
  | none => simp [memWrite_of_none v h]
  | some cause => simp [memWrite_of_some v h]

/-- The only causes a byte write raises (R37). -/
theorem writeFault_cause {cfg : CoreConfig} {a : Word} {cause : FaultCause}
    (h : writeFault cfg a = some cause) :
    cause = .mirrorOutOfRange a ∨
      ∃ t, t ∈ writeTargets cfg a ∧ readOnly cfg t = true ∧ cause = .readOnlyWrite t := by
  unfold writeFault at h
  split at h
  · exact .inl (Option.some.inj h).symm
  · obtain ⟨t, ht, rfl⟩ := Option.map_eq_some_iff.1 h
    exact .inr ⟨t, List.mem_of_find?_eq_some ht, List.find?_some ht, rfl⟩

/-! ### Two byte writes in a row: a 16-bit store, a push, an exchange -/

/-- A push that goes on has passed both checks, stored both bytes, and moved SP. -/
theorem push16_eq_next {s t : State} {v : Word} :
    push16 v s = .next t ↔
      writeFault s.cfg (s.sp - 1) = none ∧ writeFault s.cfg (s.sp - 2) = none ∧
        t = { s with
          mem := storeAll (loByte v) (writeTargets s.cfg (s.sp - 2))
            (storeAll (hiByte v) (writeTargets s.cfg (s.sp - 1)) s.mem)
          sp := s.sp - 2 } := by
  simp only [push16, andThen_eq_next, memWrite_eq_next]
  constructor
  · rintro ⟨x, ⟨h1, rfl⟩, y, ⟨h2, rfl⟩, h3⟩
    exact ⟨h1, h2, (Host.Outcome.next.inj h3).symm⟩
  · rintro ⟨h1, h2, rfl⟩
    exact ⟨_, ⟨h1, rfl⟩, _, ⟨h2, rfl⟩, rfl⟩

/-- A push that faults has left SP alone: nothing is written, or the high byte only (R154). -/
theorem push16_eq_fault {s : State} {v : Word} {f : Fault} :
    push16 v s = .fault f ↔
      (∃ cause, writeFault s.cfg (s.sp - 1) = some cause ∧ f = faultOf cause s) ∨
      (writeFault s.cfg (s.sp - 1) = none ∧
        ∃ cause, writeFault s.cfg (s.sp - 2) = some cause ∧
          f = faultOf cause
            { s with mem := storeAll (hiByte v) (writeTargets s.cfg (s.sp - 1)) s.mem }) := by
  simp only [push16, andThen_eq_fault, memWrite_eq_next, memWrite_eq_fault]
  constructor
  · rintro (h | ⟨x, ⟨h1, rfl⟩, h | ⟨y, -, h3⟩⟩)
    · exact .inl h
    · exact .inr ⟨h1, h⟩
    · cases h3
  · rintro (h | ⟨h1, h⟩)
    · exact .inl h
    · exact .inr ⟨_, ⟨h1, rfl⟩, .inl h⟩

theorem push16_not_refused (s : State) (v : Word) (r : Refusal) : push16 v s ≠ .refused r := by
  intro h
  rw [push16, andThen_eq_refused] at h
  obtain h | ⟨x, -, h⟩ := h
  · exact memWrite_not_refused _ _ _ _ h
  · rw [andThen_eq_refused] at h
    obtain h | ⟨y, -, h⟩ := h
    · exact memWrite_not_refused _ _ _ _ h
    · cases h

theorem memWrite16_eq_next {s t : State} {a v : Word} :
    memWrite16 a v s = .next t ↔
      writeFault s.cfg a = none ∧ writeFault s.cfg (a + 1) = none ∧
        t = { s with
          mem := storeAll (hiByte v) (writeTargets s.cfg (a + 1))
            (storeAll (loByte v) (writeTargets s.cfg a) s.mem) } := by
  simp only [memWrite16, andThen_eq_next, memWrite_eq_next]
  constructor
  · rintro ⟨x, ⟨h1, rfl⟩, h2, rfl⟩
    exact ⟨h1, h2, rfl⟩
  · rintro ⟨h1, h2, rfl⟩
    exact ⟨_, ⟨h1, rfl⟩, h2, rfl⟩

theorem memWrite16_eq_fault {s : State} {a v : Word} {f : Fault} :
    memWrite16 a v s = .fault f ↔
      (∃ cause, writeFault s.cfg a = some cause ∧ f = faultOf cause s) ∨
      (writeFault s.cfg a = none ∧
        ∃ cause, writeFault s.cfg (a + 1) = some cause ∧
          f = faultOf cause { s with mem := storeAll (loByte v) (writeTargets s.cfg a) s.mem }) := by
  simp only [memWrite16, andThen_eq_fault, memWrite_eq_next, memWrite_eq_fault]
  constructor
  · rintro (h | ⟨x, ⟨h1, rfl⟩, h⟩)
    · exact .inl h
    · exact .inr ⟨h1, h⟩
  · rintro (h | ⟨h1, h⟩)
    · exact .inl h
    · exact .inr ⟨_, ⟨h1, rfl⟩, h⟩

/-! ### The ports -/

theorem portIn_populated {s : State} {p : Byte} (h : p ∈ s.inHandlers) :
    portIn p s =
      .next ((nextReply s).value, callHandler (.inCall p (nextReply s).value) s) := by
  simp [portIn, h]

theorem portIn_unpopulated {s : State} {p : Byte} (h : p ∉ s.inHandlers) :
    portIn p s = .fault (.unimplementedInPort p s) := by
  simp [portIn, h, raise]

theorem portOut_populated {s : State} {p : Byte} (v : Byte) (h : p ∈ s.outHandlers) :
    portOut p v s = .next (callHandler (.outCall p v) s) := by
  simp [portOut, h]

theorem portOut_unpopulated {s : State} {p : Byte} (v : Byte) (h : p ∉ s.outHandlers) :
    portOut p v s = .fault (.unimplementedOutPort p s) := by
  simp [portOut, h, raise]

/-! ### The shapes of an instruction -/

theorem faulting_eq_next {n k : Nat} {body : State → Result} {s t : State} :
    faulting n k body s = .next t ↔
      ∃ u, body (start s) = .next u ∧ t = advance n k u := by
  simp only [faulting, andThen_eq_next]
  constructor
  · rintro ⟨u, h, h'⟩; exact ⟨u, h, (Host.Outcome.next.inj h').symm⟩
  · rintro ⟨u, h, rfl⟩; exact ⟨u, h, rfl⟩

theorem faulting_eq_fault {n k : Nat} {body : State → Result} {s : State} {f : Fault} :
    faulting n k body s = .fault f ↔ body (start s) = .fault f := by
  simp [faulting, andThen_eq_fault]

theorem callTo_eq_next {n k : Nat} {a : Word} {s t : State} :
    callTo n k a s = .next t ↔
      ∃ u, push16 (s.pc + BitVec.ofNat 16 n) (start s) = .next u ∧ t = jump n k a u := by
  simp only [callTo, andThen_eq_next]
  constructor
  · rintro ⟨u, h, h'⟩; exact ⟨u, h, (Host.Outcome.next.inj h').symm⟩
  · rintro ⟨u, h, rfl⟩; exact ⟨u, h, rfl⟩

theorem callTo_eq_fault {n k : Nat} {a : Word} {s : State} {f : Fault} :
    callTo n k a s = .fault f ↔ push16 (s.pc + BitVec.ofNat 16 n) (start s) = .fault f := by
  simp [callTo, andThen_eq_fault]

theorem interruptEntry_eq_next {n : BitVec 3} {s t : State} :
    interruptEntry n s = .next t ↔
      ∃ u, push16 s.pc s = .next u ∧
        t = { u with
          pc := vector n
          inte := false
          halted := false
          cycles := u.cycles + interruptCycles } := by
  simp only [interruptEntry, andThen_eq_next]
  constructor
  · rintro ⟨u, h, h'⟩; exact ⟨u, h, (Host.Outcome.next.inj h').symm⟩
  · rintro ⟨u, h, rfl⟩; exact ⟨u, h, rfl⟩

/-! ### Safe mode -/

/-- What a guarded body answers, case by case (R169). -/
theorem guardedBody_eq_next {body : State → Result} {s t : State} :
    guardedBody body s = .next t ↔
      body (pushSnapshot s) = .next t ∨
        ∃ f, body (pushSnapshot s) = .fault f ∧ t = markFault s.pc f := by
  unfold guardedBody
  cases body (pushSnapshot s) <;> simp [eq_comm]

/-- A guarded body never stops with a fault. -/
theorem guardedBody_not_fault (body : State → Result) (s : State) (f : Fault) :
    guardedBody body s ≠ .fault f := by
  unfold guardedBody
  cases body (pushSnapshot s) <;> simp

theorem safeStep_fresh {body : State → Result} {s : State} (h : s.pendingFault = false) :
    safeStep body s = guardedBody body s := by
  simp [safeStep, h]

theorem safeStep_retry {body : State → Result} {s : State} {x : Snapshot} {rest : List Snapshot}
    (h : s.pendingFault = true) (hs : s.snapStack = x :: rest) :
    safeStep body s = guardedBody body (retryState x rest s) := by
  simp [safeStep, h, hs]

theorem step_normal {s : State} (execute : Instr → State → Result) (h : s.cfg.safeMode = false) :
    stepVia execute s = stepBody execute s := by
  simp [stepVia, h]

theorem step_safe {s : State} (execute : Instr → State → Result) (h : s.cfg.safeMode = true) :
    stepVia execute s = safeStep (stepBody execute) s := by
  simp [stepVia, h]

end Sys2Proof.Machine
end

