-- ==== Sys2Proof/Laws/PerInstr.lean ====
section
/-! SUPPORT. Facts about every instruction as syntax, one lemma per constructor. -/

namespace Sys2Proof.Laws

/-- The encoder writes as many bytes as the instruction is long (R60, R62). -/
def EncodeLength.Statement (i : Instr) : Prop := (encode i).length = Sys2Proof.Machine.instrLength i

theorem EncodeLength.movRR (dst src : Reg) : EncodeLength.Statement (.movRR dst src) := rfl
theorem EncodeLength.movRM (dst : Reg) : EncodeLength.Statement (.movRM dst) := rfl
theorem EncodeLength.movMR (src : Reg) : EncodeLength.Statement (.movMR src) := rfl
theorem EncodeLength.mviR (dst : Reg) (v : Byte) : EncodeLength.Statement (.mviR dst v) := rfl
theorem EncodeLength.mviM (v : Byte) : EncodeLength.Statement (.mviM v) := rfl
theorem EncodeLength.lxi (p : SpPair) (v : Word) : EncodeLength.Statement (.lxi p v) := rfl
theorem EncodeLength.lda (a : Word) : EncodeLength.Statement (.lda a) := rfl
theorem EncodeLength.sta (a : Word) : EncodeLength.Statement (.sta a) := rfl
theorem EncodeLength.lhld (a : Word) : EncodeLength.Statement (.lhld a) := rfl
theorem EncodeLength.shld (a : Word) : EncodeLength.Statement (.shld a) := rfl
theorem EncodeLength.ldax (p : IndexPair) : EncodeLength.Statement (.ldax p) := rfl
theorem EncodeLength.stax (p : IndexPair) : EncodeLength.Statement (.stax p) := rfl
theorem EncodeLength.xchg : EncodeLength.Statement .xchg := rfl
theorem EncodeLength.addR (src : Reg) : EncodeLength.Statement (.addR src) := rfl
theorem EncodeLength.addM : EncodeLength.Statement .addM := rfl
theorem EncodeLength.adcR (src : Reg) : EncodeLength.Statement (.adcR src) := rfl
theorem EncodeLength.adcM : EncodeLength.Statement .adcM := rfl
theorem EncodeLength.subR (src : Reg) : EncodeLength.Statement (.subR src) := rfl
theorem EncodeLength.subM : EncodeLength.Statement .subM := rfl
theorem EncodeLength.sbbR (src : Reg) : EncodeLength.Statement (.sbbR src) := rfl
theorem EncodeLength.sbbM : EncodeLength.Statement .sbbM := rfl
theorem EncodeLength.anaR (src : Reg) : EncodeLength.Statement (.anaR src) := rfl
theorem EncodeLength.anaM : EncodeLength.Statement .anaM := rfl
theorem EncodeLength.xraR (src : Reg) : EncodeLength.Statement (.xraR src) := rfl
theorem EncodeLength.xraM : EncodeLength.Statement .xraM := rfl
theorem EncodeLength.oraR (src : Reg) : EncodeLength.Statement (.oraR src) := rfl
theorem EncodeLength.oraM : EncodeLength.Statement .oraM := rfl
theorem EncodeLength.cmpR (src : Reg) : EncodeLength.Statement (.cmpR src) := rfl
theorem EncodeLength.cmpM : EncodeLength.Statement .cmpM := rfl
theorem EncodeLength.adi (v : Byte) : EncodeLength.Statement (.adi v) := rfl
theorem EncodeLength.aci (v : Byte) : EncodeLength.Statement (.aci v) := rfl
theorem EncodeLength.sui (v : Byte) : EncodeLength.Statement (.sui v) := rfl
theorem EncodeLength.sbi (v : Byte) : EncodeLength.Statement (.sbi v) := rfl
theorem EncodeLength.ani (v : Byte) : EncodeLength.Statement (.ani v) := rfl
theorem EncodeLength.xri (v : Byte) : EncodeLength.Statement (.xri v) := rfl
theorem EncodeLength.ori (v : Byte) : EncodeLength.Statement (.ori v) := rfl
theorem EncodeLength.cpi (v : Byte) : EncodeLength.Statement (.cpi v) := rfl
theorem EncodeLength.inrR (dst : Reg) : EncodeLength.Statement (.inrR dst) := rfl
theorem EncodeLength.inrM : EncodeLength.Statement .inrM := rfl
theorem EncodeLength.dcrR (dst : Reg) : EncodeLength.Statement (.dcrR dst) := rfl
theorem EncodeLength.dcrM : EncodeLength.Statement .dcrM := rfl
theorem EncodeLength.inx (p : SpPair) : EncodeLength.Statement (.inx p) := rfl
theorem EncodeLength.dcx (p : SpPair) : EncodeLength.Statement (.dcx p) := rfl
theorem EncodeLength.dad (p : SpPair) : EncodeLength.Statement (.dad p) := rfl
theorem EncodeLength.daa : EncodeLength.Statement .daa := rfl
theorem EncodeLength.rlc : EncodeLength.Statement .rlc := rfl
theorem EncodeLength.rrc : EncodeLength.Statement .rrc := rfl
theorem EncodeLength.ral : EncodeLength.Statement .ral := rfl
theorem EncodeLength.rar : EncodeLength.Statement .rar := rfl
theorem EncodeLength.cma : EncodeLength.Statement .cma := rfl
theorem EncodeLength.stc : EncodeLength.Statement .stc := rfl
theorem EncodeLength.cmc : EncodeLength.Statement .cmc := rfl
theorem EncodeLength.jmp (a : Word) : EncodeLength.Statement (.jmp a) := rfl
theorem EncodeLength.jcc (cc : Cond) (a : Word) : EncodeLength.Statement (.jcc cc a) := rfl
theorem EncodeLength.call (a : Word) : EncodeLength.Statement (.call a) := rfl
theorem EncodeLength.ccc (cc : Cond) (a : Word) : EncodeLength.Statement (.ccc cc a) := rfl
theorem EncodeLength.ret : EncodeLength.Statement .ret := rfl
theorem EncodeLength.rcc (cc : Cond) : EncodeLength.Statement (.rcc cc) := rfl
theorem EncodeLength.rst (n : BitVec 3) : EncodeLength.Statement (.rst n) := rfl
theorem EncodeLength.pchl : EncodeLength.Statement .pchl := rfl
theorem EncodeLength.pushRp (p : Pair) : EncodeLength.Statement (.pushRp p) := rfl
theorem EncodeLength.pushPsw : EncodeLength.Statement .pushPsw := rfl
theorem EncodeLength.popRp (p : Pair) : EncodeLength.Statement (.popRp p) := rfl
theorem EncodeLength.popPsw : EncodeLength.Statement .popPsw := rfl
theorem EncodeLength.xthl : EncodeLength.Statement .xthl := rfl
theorem EncodeLength.sphl : EncodeLength.Statement .sphl := rfl
theorem EncodeLength.inp (port : Byte) : EncodeLength.Statement (.inp port) := rfl
theorem EncodeLength.outp (port : Byte) : EncodeLength.Statement (.outp port) := rfl
theorem EncodeLength.ei : EncodeLength.Statement .ei := rfl
theorem EncodeLength.di : EncodeLength.Statement .di := rfl
theorem EncodeLength.hlt : EncodeLength.Statement .hlt := rfl
theorem EncodeLength.nop : EncodeLength.Statement .nop := rfl
theorem EncodeLength.illegal (op : Byte) : EncodeLength.Statement (.illegal op) := rfl

end Sys2Proof.Laws
end

