-- ==== Sys2Proof/Tests/Slice0.lean ====
section
/-! SUPPORT. The model's own tests. Every expected value is the spec's: a vector V<n> or I<n> of
spec/95_test_vectors.md, a word written out from the formats of spec/30_encoding.md, or a hand calculation
from the rule named. The last part shows, for each obligation with hypotheses, concrete states and operands
that meet them. -/

namespace Sys2Proof.Tests

open Sys2Proof.Machine Sys2Proof.Claims

/-! ### Small states -/

/-- From reset: PC, the bytes at PC, more bytes of memory, and a change. -/
def prep (pc : Word) (code : List Byte) (cells : List (Word × Byte)) (change : State → State) : State :=
  change
    { State.reset with
      pc := pc
      mem := cells.foldl (fun m c => m.write c.1.toNat c.2) (placeBytes code pc []) }

/-- This outcome is a next state, and it has this property. -/
def goesOn (r : Result) (p : State → Bool) : Bool :=
  match r with
  | .next t => p t
  | _ => false

/-- This outcome is a fault of this cause, and the state it leaves has this property. -/
def faultsWith (r : Result) (cause : FaultCause) (p : State → Bool) : Bool :=
  match r with
  | .fault f => f.cause == cause && p f.left
  | _ => false

/-- One Step ends in a state with this property. -/
def ends (s : State) (p : State → Bool) : Bool := goesOn (step s) p

/-- One Step stops with this fault and leaves a state with this property. -/
def stops (s : State) (cause : FaultCause) (p : State → Bool) : Bool := faultsWith (step s) cause p

/-- A state with memory read-only from `lo` to `hi`. -/
def guarded (lo hi : Word) (s : State) : State :=
  { s with cfg := { s.cfg with roRange := some (lo, hi) } }

/-- A state in safe mode. -/
def safe (s : State) : State := { s with cfg := { s.cfg with safeMode := true } }

/-! ### WellFormed (R65, R66) -/

/-- A legal opcode is no illegal instruction: the check refuses it. -/
theorem test_ill_formed_legal_opcode : (Instr.illegal 0x00).wellFormed = false := by decide

/-- HLT is not illegal either. -/
theorem test_ill_formed_hlt : (Instr.illegal 0x76).wellFormed = false := by decide

theorem test_well_formed_illegals :
    illegalOpcodes.length = 12 ∧
      illegalOpcodes.all (fun op => (Instr.illegal op).wellFormed) = true := by decide

/-- These bytes decode to this instruction and nothing is left. -/
def reads (row : List Byte × Instr) : Bool :=
  match decode row.1 with
  | .ok (i, rest) => i == row.2 && rest.isEmpty
  | .error _ => false

/-! ### Decode: words written out bit by bit (R60 to R63) -/

theorem test_decode_data_transfer :
    [([0b01111000#8], Instr.movRR .a .b), ([0b01001110#8], Instr.movRM .c),
      ([0b01110100#8], Instr.movMR .h), ([0b00000110#8, 0x05], Instr.mviR .b 0x05),
      ([0b00110110#8, 0xAB], Instr.mviM 0xAB), ([0b00110001#8, 0x00, 0x24], Instr.lxi .sp 0x2400),
      ([0b00111010#8, 0x00, 0x30], Instr.lda 0x3000),
      ([0b00110010#8, 0x01, 0xFF], Instr.sta 0xFF01),
      ([0b00101010#8, 0x34, 0x12], Instr.lhld 0x1234),
      ([0b00100010#8, 0x34, 0x12], Instr.shld 0x1234), ([0b00001010#8], Instr.ldax .bc),
      ([0b00010010#8], Instr.stax .de),
      ([0b11101011#8], Instr.xchg)].all reads = true := by decide

theorem test_decode_alu_register_and_memory :
    [([0b10000000#8], Instr.addR .b), ([0b10000110#8], Instr.addM),
      ([0b10001111#8], Instr.adcR .a), ([0b10001110#8], Instr.adcM),
      ([0b10010010#8], Instr.subR .d), ([0b10010110#8], Instr.subM),
      ([0b10011011#8], Instr.sbbR .e), ([0b10011110#8], Instr.sbbM),
      ([0b10100100#8], Instr.anaR .h), ([0b10100110#8], Instr.anaM),
      ([0b10101101#8], Instr.xraR .l), ([0b10101110#8], Instr.xraM),
      ([0b10110001#8], Instr.oraR .c), ([0b10110110#8], Instr.oraM),
      ([0b10111000#8], Instr.cmpR .b), ([0b10111110#8], Instr.cmpM)].all reads = true := by decide

theorem test_decode_alu_immediate :
    [([0b11000110#8, 0x01], Instr.adi 0x01), ([0b11001110#8, 0x02], Instr.aci 0x02),
      ([0b11010110#8, 0x03], Instr.sui 0x03), ([0b11011110#8, 0x04], Instr.sbi 0x04),
      ([0b11100110#8, 0x05], Instr.ani 0x05), ([0b11101110#8, 0x06], Instr.xri 0x06),
      ([0b11110110#8, 0x07], Instr.ori 0x07),
      ([0b11111110#8, 0x08], Instr.cpi 0x08)].all reads = true := by decide

theorem test_decode_arithmetic :
    [([0b00111100#8], Instr.inrR .a), ([0b00110100#8], Instr.inrM),
      ([0b00001101#8], Instr.dcrR .c), ([0b00110101#8], Instr.dcrM),
      ([0b00100011#8], Instr.inx .hl), ([0b00011011#8], Instr.dcx .de),
      ([0b00001001#8], Instr.dad .bc), ([0b00100111#8], Instr.daa)].all reads = true := by decide

theorem test_decode_rotate_and_flag :
    [([0b00000111#8], Instr.rlc), ([0b00001111#8], Instr.rrc), ([0b00010111#8], Instr.ral),
      ([0b00011111#8], Instr.rar), ([0b00101111#8], Instr.cma), ([0b00110111#8], Instr.stc),
      ([0b00111111#8], Instr.cmc)].all reads = true := by decide

theorem test_decode_branch :
    [([0b11000011#8, 0x34, 0x12], Instr.jmp 0x1234),
      ([0b11001010#8, 0x34, 0x12], Instr.jcc .z 0x1234),
      ([0b11100010#8, 0x34, 0x12], Instr.jcc .po 0x1234),
      ([0b11001101#8, 0x00, 0x03], Instr.call 0x0300),
      ([0b11111100#8, 0x00, 0x04], Instr.ccc .m 0x0400), ([0b11001001#8], Instr.ret),
      ([0b11011000#8], Instr.rcc .c), ([0b11101111#8], Instr.rst 5),
      ([0b11101001#8], Instr.pchl)].all reads = true := by decide

theorem test_decode_stack_io_control :
    [([0b11010101#8], Instr.pushRp .de), ([0b11110101#8], Instr.pushPsw),
      ([0b11100001#8], Instr.popRp .hl), ([0b11110001#8], Instr.popPsw),
      ([0b11100011#8], Instr.xthl), ([0b11111001#8], Instr.sphl),
      ([0b11011011#8, 0x07], Instr.inp 0x07), ([0b11010011#8, 0x02], Instr.outp 0x02),
      ([0b11111011#8], Instr.ei), ([0b11110011#8], Instr.di), ([0b01110110#8], Instr.hlt),
      ([0b00000000#8], Instr.nop)].all reads = true := by decide

/-- The twelve illegal opcodes (R65), whatever follows. -/
theorem test_decode_illegal :
    [0x08#8, 0x10#8, 0x18#8, 0x20#8, 0x28#8, 0x30#8, 0x38#8, 0xCB#8, 0xD9#8, 0xDD#8, 0xED#8,
        0xFD#8].map (fun op => decode [op, 0x00]) =
      [0x08#8, 0x10#8, 0x18#8, 0x20#8, 0x28#8, 0x30#8, 0x38#8, 0xCB#8, 0xD9#8, 0xDD#8, 0xED#8,
        0xFD#8].map (fun op => .ok (.illegal op, [0x00])) := by decide

/-- What follows an instruction is left (R62). -/
theorem test_decode_leaves_the_rest :
    decode [0x3E, 0x42, 0xDB, 0x07] = .ok (.mviR .a 0x42, [0xDB, 0x07]) := by decide

/-- Missing bytes are refused by name. -/
theorem test_decode_refuses_missing_bytes :
    decode [] = .error .noBytes ∧ decode [0x3E] = .error (.truncated 0x3E) ∧
      decode [0xC3, 0x34] = .error (.truncated 0xC3) := by decide

/-- The first byte of a table word is its low byte (R61). -/
theorem test_table_word :
    decodeTableWord 24 0x1234CA = some (.jcc .z 0x1234) ∧
      decodeTableWord 8 0xFFFFCA = some (.jcc .z 0x0000) := by decide

/-- A placed word is the one the next Step runs, after reset and in a safe-mode retry. -/
theorem test_with_fetch_word :
    ends (State.reset.withFetchWord 16 0x0506) (fun t => t.b == 0x05 && t.pc == 0x0002) = true ∧
      ends
        (State.withFetchWord
          { safe (prep 0x0101 [] [] id) with
            pendingFault := true, snapStack := [(prep 0x0100 [0x08] [] id).snapshot] } 16 0x0506)
        (fun t => t.b == 0x05 && t.pc == 0x0102) = true := by decide

/-! ### One Step each, from the vectors of spec/95_test_vectors.md -/

/-- V1. -/
theorem test_mov_a_b :
    ends (prep 0x0100 [0x78] [] (fun s => { s with b := 0x5A })) fun t =>
      t.a == 0x5A && t.pc == 0x0101 && t.flags.pack == 0x02 && t.cycles == 5 &&
        t.returned == 1 := by decide

/-- V3. -/
theorem test_mov_c_m :
    ends (prep 0x0100 [0x4E] [(0x2000, 0xC4)] (fun s => { s with h := 0x20, l := 0x00 })) fun t =>
      t.c == 0xC4 && t.pc == 0x0101 && t.flags.pack == 0x02 && t.cycles == 7 &&
        t.returned == 1 := by decide

/-- V4. -/
theorem test_mov_m_a :
    ends (prep 0x0100 [0x77] [] (fun s => { s with h := 0x20, l := 0x00, a := 0x99 })) fun t =>
      t.pc == 0x0101 && memRead t 0x2000 == 0x99 && t.flags.pack == 0x02 && t.cycles == 7 &&
        t.returned == 1 := by decide

/-- V6. -/
theorem test_mov_m_a_read_only :
    stops (prep 0x0100 [0x77] []
        (fun s => { s with
            h := 0x20, l := 0x00
            cfg := { s.cfg with roRange := some (0x2000, 0x20FF) } }))
        (.readOnlyWrite 0x2000) fun t =>
      t.pc == 0x0100 && t.cycles == 0 := by decide

/-- V7. -/
theorem test_mvi_b :
    ends (prep 0x0100 [0x06, 0x05] [] id) fun t =>
      t.b == 0x05 && t.pc == 0x0102 && t.flags.pack == 0x02 && t.cycles == 7 &&
        t.returned == 2 := by decide

/-- V8. -/
theorem test_mvi_m :
    ends (prep 0x0100 [0x36, 0xAB] [] (fun s => { s with h := 0x30, l := 0x10 })) fun t =>
      t.pc == 0x0102 && memRead t 0x3010 == 0xAB && t.flags.pack == 0x02 && t.cycles == 10 &&
        t.returned == 2 := by decide

/-- V9. -/
theorem test_lxi_sp :
    ends (prep 0x0100 [0x31, 0x00, 0x24] [] id) fun t =>
      t.sp == 0x2400 && t.pc == 0x0103 && t.flags.pack == 0x02 && t.cycles == 10 &&
        t.returned == 3 := by decide

/-- V10. -/
theorem test_lxi_h_low_byte_first :
    ends (prep 0x0100 [0x21, 0xCD, 0xAB] [] id) fun t =>
      t.h == 0xAB && t.l == 0xCD && t.pc == 0x0103 && t.flags.pack == 0x02 && t.cycles == 10 &&
        t.returned == 3 := by decide

/-- V11. -/
theorem test_lda :
    ends (prep 0x0100 [0x3A, 0x00, 0x30] [(0x3000, 0x7E)] id) fun t =>
      t.a == 0x7E && t.pc == 0x0103 && t.flags.pack == 0x02 && t.cycles == 13 &&
        t.returned == 3 := by decide

/-- V12. -/
theorem test_sta_top_of_memory :
    ends (prep 0x0100 [0x32, 0xFF, 0xFF] [] (fun s => { s with a := 0x42 })) fun t =>
      t.pc == 0x0103 && memRead t 0xFFFF == 0x42 && t.flags.pack == 0x02 && t.cycles == 13 &&
        t.returned == 3 := by decide

/-- V13. -/
theorem test_lhld_wraps :
    ends (prep 0x0100 [0x2A, 0xFF, 0xFF] [(0xFFFF, 0x34), (0x0000, 0x12)] id) fun t =>
      t.h == 0x12 && t.l == 0x34 && t.pc == 0x0103 && t.flags.pack == 0x02 && t.cycles == 16 &&
        t.returned == 3 := by decide

/-- V14. -/
theorem test_shld :
    ends (prep 0x0100 [0x22, 0x00, 0x40] [] (fun s => { s with h := 0xBE, l := 0xEF })) fun t =>
      t.pc == 0x0103 && memRead t 0x4000 == 0xEF && memRead t 0x4001 == 0xBE &&
        t.flags.pack == 0x02 && t.cycles == 16 && t.returned == 3 := by decide

/-- V15. -/
theorem test_shld_second_byte_read_only :
    stops (prep 0x0100 [0x22, 0x00, 0x40] []
        (fun s => { s with
            h := 0xBE, l := 0xEF
            cfg := { s.cfg with roRange := some (0x4001, 0x4001) } }))
        (.readOnlyWrite 0x4001) fun t =>
      t.pc == 0x0100 && memRead t 0x4000 == 0xEF && t.cycles == 0 := by decide

/-- V16. -/
theorem test_ldax_b :
    ends (prep 0x0100 [0x0A] [(0x3000, 0x5C)] (fun s => { s with b := 0x30, c := 0x00 })) fun t =>
      t.a == 0x5C && t.pc == 0x0101 && t.flags.pack == 0x02 && t.cycles == 7 &&
        t.returned == 1 := by decide

/-- V17. -/
theorem test_stax_d :
    ends (prep 0x0100 [0x12] [] (fun s => { s with d := 0x30, e := 0x01, a := 0x66 })) fun t =>
      t.pc == 0x0101 && memRead t 0x3001 == 0x66 && t.flags.pack == 0x02 && t.cycles == 7 &&
        t.returned == 1 := by decide

/-- V18. -/
theorem test_xchg :
    ends (prep 0x0100 [0xEB] []
        (fun s => { s with d := 0x12, e := 0x34, h := 0x56, l := 0x78 })) fun t =>
      t.d == 0x56 && t.e == 0x78 && t.h == 0x12 && t.l == 0x34 && t.pc == 0x0101 &&
        t.flags.pack == 0x02 && t.cycles == 4 && t.returned == 1 := by decide

/-- V19. -/
theorem test_store_is_mirrored :
    ends (prep 0x0100 [0x77] []
        (fun s => { s with
            a := 0x77, h := 0x10, l := 0x00
            cfg := { s.cfg with mirrorOffset := 0x8000 } })) fun t =>
      t.pc == 0x0101 && memRead t 0x1000 == 0x77 && memRead t 0x9000 == 0x77 &&
        t.flags.pack == 0x02 && t.cycles == 7 && t.returned == 1 := by decide

/-- V20. -/
theorem test_mirror_out_of_range :
    stops (prep 0x0100 [0x77] []
        (fun s => { s with
            a := 0x77, h := 0x90, l := 0x00
            cfg := { s.cfg with mirrorOffset := 0x8000 } }))
        (.mirrorOutOfRange 0x9000) fun t =>
      t.pc == 0x0100 && t.cycles == 0 := by decide

/-- V21. -/
theorem test_mirror_target_read_only :
    stops (prep 0x0100 [0x77] []
        (fun s => { s with
            a := 0x77, h := 0x10, l := 0x00
            cfg := { s.cfg with mirrorOffset := 0x8000, roRange := some (0x9000, 0x9000) } }))
        (.readOnlyWrite 0x9000) fun t =>
      t.pc == 0x0100 && t.cycles == 0 := by decide

/-- V22. -/
theorem test_add_b :
    ends (prep 0x0100 [0x80] [] (fun s => { s with a := 0x3A, b := 0xC6 })) fun t =>
      t.a == 0x00 && t.pc == 0x0101 && t.flags.pack == 0x57 && t.cycles == 4 &&
        t.returned == 1 := by decide

/-- V23. -/
theorem test_add_c :
    ends (prep 0x0100 [0x81] [] (fun s => { s with a := 0x7F, c := 0x01 })) fun t =>
      t.a == 0x80 && t.pc == 0x0101 && t.flags.pack == 0x92 && t.cycles == 4 &&
        t.returned == 1 := by decide

/-- V24. -/
theorem test_adi :
    ends (prep 0x0100 [0xC6, 0x01] [] (fun s => { s with a := 0x0F })) fun t =>
      t.a == 0x10 && t.pc == 0x0102 && t.flags.pack == 0x12 && t.cycles == 7 &&
        t.returned == 2 := by decide

/-- V25. -/
theorem test_adc_a :
    ends (prep 0x0100 [0x8F] []
        (fun s => { s with a := 0xFF, flags := { s.flags with cy := true } })) fun t =>
      t.pc == 0x0101 && t.flags.pack == 0x97 && t.cycles == 4 && t.returned == 1 := by decide

/-- V26. -/
theorem test_aci :
    ends (prep 0x0100 [0xCE, 0x00] []
        (fun s => { s with a := 0xFF, flags := { s.flags with cy := true } })) fun t =>
      t.a == 0x00 && t.pc == 0x0102 && t.flags.pack == 0x57 && t.cycles == 7 &&
        t.returned == 2 := by decide

/-- V27. -/
theorem test_sub_a :
    ends (prep 0x0100 [0x97] [] (fun s => { s with a := 0x3E })) fun t =>
      t.a == 0x00 && t.pc == 0x0101 && t.flags.pack == 0x46 && t.cycles == 4 &&
        t.returned == 1 := by decide

/-- V28. -/
theorem test_sub_b_half_borrow :
    ends (prep 0x0100 [0x90] [] (fun s => { s with a := 0x10, b := 0x01 })) fun t =>
      t.a == 0x0F && t.pc == 0x0101 && t.flags.pack == 0x16 && t.cycles == 4 &&
        t.returned == 1 := by decide

/-- V29. -/
theorem test_sub_b_intel_complement :
    ends (prep 0x0100 [0x90] []
        (fun s => { s with
            a := 0x10, b := 0x01
            cfg := { s.cfg with acSubRule := .intelComplement } })) fun t =>
      t.a == 0x0F && t.pc == 0x0101 && t.flags.pack == 0x06 && t.cycles == 4 &&
        t.returned == 1 := by decide

/-- V30. -/
theorem test_sui :
    ends (prep 0x0100 [0xD6, 0x01] [] (fun s => { s with a := 0x00 })) fun t =>
      t.a == 0xFF && t.pc == 0x0102 && t.flags.pack == 0x97 && t.cycles == 7 &&
        t.returned == 2 := by decide

/-- V31. -/
theorem test_sbb_d :
    ends (prep 0x0100 [0x9A] []
        (fun s => { s with a := 0x05, d := 0x05, flags := { s.flags with cy := true } })) fun t =>
      t.a == 0xFF && t.pc == 0x0101 && t.flags.pack == 0x97 && t.cycles == 4 &&
        t.returned == 1 := by decide

/-- V32. -/
theorem test_sbi_with_borrow :
    ends (prep 0x0100 [0xDE, 0xFF] []
        (fun s => { s with a := 0x00, flags := { s.flags with cy := true } })) fun t =>
      t.pc == 0x0102 && t.flags.pack == 0x57 && t.cycles == 7 && t.returned == 2 := by decide

/-- V33. -/
theorem test_sbi_without_borrow :
    ends (prep 0x0100 [0xDE, 0xFF] [] (fun s => { s with a := 0x00 })) fun t =>
      t.a == 0x01 && t.pc == 0x0102 && t.flags.pack == 0x13 && t.cycles == 7 &&
        t.returned == 2 := by decide

/-- V34. -/
theorem test_inr_b_wraps :
    ends (prep 0x0100 [0x04] []
        (fun s => { s with b := 0xFF, flags := { s.flags with cy := true } })) fun t =>
      t.b == 0x00 && t.pc == 0x0101 && t.flags.pack == 0x57 && t.cycles == 5 &&
        t.returned == 1 := by decide

/-- V36. -/
theorem test_inr_m :
    ends (prep 0x0100 [0x34] [(0x2000, 0x7F)] (fun s => { s with h := 0x20, l := 0x00 })) fun t =>
      t.pc == 0x0101 && memRead t 0x2000 == 0x80 && t.flags.pack == 0x92 && t.cycles == 10 &&
        t.returned == 1 := by decide

/-- V37. -/
theorem test_dcr_c_wraps :
    ends (prep 0x0100 [0x0D] [] (fun s => { s with c := 0x00 })) fun t =>
      t.c == 0xFF && t.pc == 0x0101 && t.flags.pack == 0x96 && t.cycles == 5 &&
        t.returned == 1 := by decide

/-- V39. -/
theorem test_dcr_c_intel_complement :
    ends (prep 0x0100 [0x0D] []
        (fun s => { s with
            c := 0x10, cfg := { s.cfg with acSubRule := .intelComplement } })) fun t =>
      t.c == 0x0F && t.pc == 0x0101 && t.flags.pack == 0x06 && t.cycles == 5 &&
        t.returned == 1 := by decide

/-- V41. -/
theorem test_inx_sp_wraps :
    ends (prep 0x0100 [0x33] [] (fun s => { s with sp := 0xFFFF })) fun t =>
      t.sp == 0x0000 && t.pc == 0x0101 && t.flags.pack == 0x02 && t.cycles == 5 &&
        t.returned == 1 := by decide

/-- V42. -/
theorem test_dcx_b_wraps :
    ends (prep 0x0100 [0x0B] []
        (fun s => { s with b := 0x00, c := 0x00, flags := { s.flags with z := true } })) fun t =>
      t.b == 0xFF && t.c == 0xFF && t.pc == 0x0101 && t.flags.pack == 0x42 && t.cycles == 5 &&
        t.returned == 1 := by decide

/-- V43. -/
theorem test_dad_b_carries :
    ends (prep 0x0100 [0x09] []
        (fun s => { s with h := 0xFF, l := 0xFF, b := 0x00, c := 0x01 })) fun t =>
      t.h == 0x00 && t.l == 0x00 && t.pc == 0x0101 && t.flags.pack == 0x03 && t.cycles == 10 &&
        t.returned == 1 := by decide

/-- V45. -/
theorem test_dad_sp_keeps_z_and_s :
    ends (prep 0x0100 [0x39] []
        (fun s => { s with
            h := 0x12, l := 0x34, sp := 0x1000
            flags := { s.flags with z := true, s := true } })) fun t =>
      t.h == 0x22 && t.pc == 0x0101 && t.flags.pack == 0xC2 && t.cycles == 10 &&
        t.returned == 1 := by decide

/-- V46. -/
theorem test_daa_9a :
    ends (prep 0x0100 [0x27] [] (fun s => { s with a := 0x9A })) fun t =>
      t.a == 0x00 && t.pc == 0x0101 && t.flags.pack == 0x57 && t.cycles == 4 &&
        t.returned == 1 := by decide

/-- V47. -/
theorem test_daa_fa :
    ends (prep 0x0100 [0x27] [] (fun s => { s with a := 0xFA })) fun t =>
      t.a == 0x60 && t.pc == 0x0101 && t.flags.pack == 0x17 && t.cycles == 4 &&
        t.returned == 1 := by decide

/-- V53. -/
theorem test_ana_c :
    ends (prep 0x0100 [0xA1] []
        (fun s => { s with
            a := 0xFC, c := 0x0F
            flags := { s.flags with cy := true, ac := true } })) fun t =>
      t.a == 0x0C && t.pc == 0x0101 && t.flags.pack == 0x06 && t.cycles == 4 &&
        t.returned == 1 := by decide

/-- V55. -/
theorem test_ani :
    ends (prep 0x0100 [0xE6, 0x00] [] (fun s => { s with a := 0x3A })) fun t =>
      t.a == 0x00 && t.pc == 0x0102 && t.flags.pack == 0x46 && t.cycles == 7 &&
        t.returned == 2 := by decide

/-- V56. -/
theorem test_xra_a :
    ends (prep 0x0100 [0xAF] []
        (fun s => { s with a := 0x5C, flags := { s.flags with cy := true } })) fun t =>
      t.a == 0x00 && t.pc == 0x0101 && t.flags.pack == 0x46 && t.cycles == 4 &&
        t.returned == 1 := by decide

/-- V57. -/
theorem test_xri :
    ends (prep 0x0100 [0xEE, 0xFF] [] (fun s => { s with a := 0x3B })) fun t =>
      t.a == 0xC4 && t.pc == 0x0102 && t.flags.pack == 0x82 && t.cycles == 7 &&
        t.returned == 2 := by decide

/-- V58. -/
theorem test_ora_a :
    ends (prep 0x0100 [0xB7] [] (fun s => { s with a := 0x00 })) fun t =>
      t.pc == 0x0101 && t.flags.pack == 0x46 && t.cycles == 4 && t.returned == 1 := by decide

/-- V59. -/
theorem test_ori :
    ends (prep 0x0100 [0xF6, 0x01] [] (fun s => { s with a := 0x80 })) fun t =>
      t.a == 0x81 && t.pc == 0x0102 && t.flags.pack == 0x86 && t.cycles == 7 &&
        t.returned == 2 := by decide

/-- V60. -/
theorem test_cmp_b_less :
    ends (prep 0x0100 [0xB8] [] (fun s => { s with a := 0x05, b := 0x0A })) fun t =>
      t.pc == 0x0101 && t.flags.pack == 0x93 && t.cycles == 4 && t.returned == 1 := by decide

/-- V62. -/
theorem test_cpi :
    ends (prep 0x0100 [0xFE, 0x01] [] (fun s => { s with a := 0x00 })) fun t =>
      t.pc == 0x0102 && t.flags.pack == 0x97 && t.cycles == 7 && t.returned == 2 := by decide

/-- V63. -/
theorem test_rlc :
    ends (prep 0x0100 [0x07] [] (fun s => { s with a := 0x80 })) fun t =>
      t.a == 0x01 && t.pc == 0x0101 && t.flags.pack == 0x03 && t.cycles == 4 &&
        t.returned == 1 := by decide

/-- V64. -/
theorem test_rrc :
    ends (prep 0x0100 [0x0F] [] (fun s => { s with a := 0x01 })) fun t =>
      t.a == 0x80 && t.pc == 0x0101 && t.flags.pack == 0x03 && t.cycles == 4 &&
        t.returned == 1 := by decide

/-- V65. -/
theorem test_ral :
    ends (prep 0x0100 [0x17] [] (fun s => { s with a := 0x80 })) fun t =>
      t.a == 0x00 && t.pc == 0x0101 && t.flags.pack == 0x03 && t.cycles == 4 &&
        t.returned == 1 := by decide

/-- V66. -/
theorem test_rar :
    ends (prep 0x0100 [0x1F] []
        (fun s => { s with a := 0x01, flags := { s.flags with cy := true } })) fun t =>
      t.a == 0x80 && t.pc == 0x0101 && t.flags.pack == 0x03 && t.cycles == 4 &&
        t.returned == 1 := by decide

/-- V67. -/
theorem test_cma :
    ends (prep 0x0100 [0x2F] []
        (fun s => { s with a := 0x00, flags := { s.flags with z := true } })) fun t =>
      t.a == 0xFF && t.pc == 0x0101 && t.flags.pack == 0x42 && t.cycles == 4 &&
        t.returned == 1 := by decide

/-- V68. -/
theorem test_stc :
    ends (prep 0x0100 [0x37] [] id) fun t =>
      t.pc == 0x0101 && t.flags.pack == 0x03 && t.cycles == 4 && t.returned == 1 := by decide

/-- V69. -/
theorem test_cmc :
    ends (prep 0x0100 [0x3F] [] id) fun t =>
      t.pc == 0x0101 && t.flags.pack == 0x03 && t.cycles == 4 && t.returned == 1 := by decide

/-- V70. -/
theorem test_jmp :
    ends (prep 0x0100 [0xC3, 0x34, 0x12] [] id) fun t =>
      t.pc == 0x1234 && t.flags.pack == 0x02 && t.cycles == 10 && t.returned == 3 := by decide

/-- V72. -/
theorem test_jz_taken :
    ends (prep 0x0100 [0xCA, 0x00, 0x20] []
        (fun s => { s with flags := { s.flags with z := true } })) fun t =>
      t.pc == 0x2000 && t.flags.pack == 0x42 && t.cycles == 10 && t.returned == 3 := by decide

/-- V80. -/
theorem test_jc_not_taken_wraps :
    ends (prep 0xFFFD [0xDA, 0x00, 0x00] [] id) fun t =>
      t.pc == 0x0000 && t.flags.pack == 0x02 && t.cycles == 10 && t.returned == 3 := by decide

/-- V81. -/
theorem test_pchl :
    ends (prep 0x0100 [0xE9] [] (fun s => { s with h := 0x41, l := 0x3E })) fun t =>
      t.pc == 0x413E && t.flags.pack == 0x02 && t.cycles == 5 && t.returned == 1 := by decide

/-- V82. -/
theorem test_call :
    ends (prep 0x0100 [0xCD, 0x00, 0x03] [] (fun s => { s with sp := 0x2400 })) fun t =>
      t.sp == 0x23FE && t.pc == 0x0300 && memRead t 0x23FE == 0x03 && memRead t 0x23FF == 0x01 &&
        t.flags.pack == 0x02 && t.cycles == 17 && t.returned == 3 := by decide

/-- V84. -/
theorem test_call_low_byte_read_only :
    stops (prep 0x0100 [0xCD, 0x00, 0x03] []
        (fun s => { s with
            sp := 0x2400
            cfg := { s.cfg with roRange := some (0x23FE, 0x23FE) } }))
        (.readOnlyWrite 0x23FE) fun t =>
      t.pc == 0x0100 && memRead t 0x23FF == 0x01 && t.cycles == 0 := by decide

/-- V85. -/
theorem test_cnz_not_taken :
    ends (prep 0x0100 [0xC4, 0x00, 0x04] []
        (fun s => { s with sp := 0x3000, flags := { s.flags with z := true } })) fun t =>
      t.pc == 0x0103 && t.flags.pack == 0x42 && t.cycles == 11 && t.returned == 3 := by decide

/-- V86. -/
theorem test_cm_taken :
    ends (prep 0x0100 [0xFC, 0x00, 0x04] []
        (fun s => { s with sp := 0x3000, flags := { s.flags with s := true } })) fun t =>
      t.sp == 0x2FFE && t.pc == 0x0400 && memRead t 0x2FFE == 0x03 && memRead t 0x2FFF == 0x01 &&
        t.flags.pack == 0x82 && t.cycles == 17 && t.returned == 3 := by decide

/-- V87. -/
theorem test_ret :
    ends (prep 0x0100 [0xC9] [(0x23FE, 0x03), (0x23FF, 0x01)]
        (fun s => { s with sp := 0x23FE })) fun t =>
      t.sp == 0x2400 && t.pc == 0x0103 && t.flags.pack == 0x02 && t.cycles == 10 &&
        t.returned == 1 := by decide

/-- V88. -/
theorem test_ret_sp_wraps :
    ends (prep 0x0100 [0xC9] [(0xFFFF, 0x34), (0x0000, 0x12)]
        (fun s => { s with sp := 0xFFFF })) fun t =>
      t.sp == 0x0001 && t.pc == 0x1234 && t.flags.pack == 0x02 && t.cycles == 10 &&
        t.returned == 1 := by decide

/-- V89. -/
theorem test_rc_taken :
    ends (prep 0x0100 [0xD8] [(0x23FE, 0x03), (0x23FF, 0x01)]
        (fun s => { s with sp := 0x23FE, flags := { s.flags with cy := true } })) fun t =>
      t.sp == 0x2400 && t.pc == 0x0103 && t.flags.pack == 0x03 && t.cycles == 11 &&
        t.returned == 1 := by decide

/-- V90. -/
theorem test_rc_not_taken :
    ends (prep 0x0100 [0xD8] [(0x23FE, 0x03), (0x23FF, 0x01)]
        (fun s => { s with sp := 0x23FE })) fun t =>
      t.pc == 0x0101 && t.flags.pack == 0x02 && t.cycles == 5 && t.returned == 1 := by decide

/-- V91. -/
theorem test_rst_7 :
    ends (prep 0x0100 [0xFF] [] (fun s => { s with sp := 0x2400 })) fun t =>
      t.sp == 0x23FE && t.pc == 0x0038 && memRead t 0x23FE == 0x01 && memRead t 0x23FF == 0x01 &&
        t.flags.pack == 0x02 && t.cycles == 11 && t.returned == 1 := by decide

/-- V92. -/
theorem test_rst_0 :
    ends (prep 0x0100 [0xC7] [] (fun s => { s with sp := 0x2400 })) fun t =>
      t.sp == 0x23FE && t.pc == 0x0000 && memRead t 0x23FE == 0x01 && memRead t 0x23FF == 0x01 &&
        t.flags.pack == 0x02 && t.cycles == 11 && t.returned == 1 := by decide

/-- V93. -/
theorem test_push_b_wraps :
    ends (prep 0x0100 [0xC5] [] (fun s => { s with b := 0x12, c := 0x34, sp := 0x0001 })) fun t =>
      t.sp == 0xFFFF && t.pc == 0x0101 && memRead t 0x0000 == 0x12 && memRead t 0xFFFF == 0x34 &&
        t.flags.pack == 0x02 && t.cycles == 11 && t.returned == 1 := by decide

/-- V94. -/
theorem test_push_psw :
    ends (prep 0x0100 [0xF5] []
        (fun s => { s with
            a := 0xFF, sp := 0x2000
            flags := { s.flags with s := true, z := true, ac := true, p := true, cy := true } })) fun t =>
      t.sp == 0x1FFE && t.pc == 0x0101 && memRead t 0x1FFE == 0xD7 && memRead t 0x1FFF == 0xFF &&
        t.flags.pack == 0xD7 && t.cycles == 11 && t.returned == 1 := by decide

/-- V96. -/
theorem test_pop_d :
    ends (prep 0x0100 [0xD1] [(0x2000, 0xCD), (0x2001, 0xAB)]
        (fun s => { s with sp := 0x2000 })) fun t =>
      t.d == 0xAB && t.e == 0xCD && t.sp == 0x2002 && t.pc == 0x0101 && t.flags.pack == 0x02 &&
        t.cycles == 10 && t.returned == 1 := by decide

/-- V97. -/
theorem test_pop_psw_ff :
    ends (prep 0x0100 [0xF1] [(0x2000, 0xFF), (0x2001, 0x00)]
        (fun s => { s with sp := 0x2000 })) fun t =>
      t.sp == 0x2002 && t.pc == 0x0101 && t.flags.pack == 0xD7 && t.cycles == 10 &&
        t.returned == 1 := by decide

/-- V98. -/
theorem test_pop_psw_28 :
    ends (prep 0x0100 [0xF1] [(0x2000, 0x28), (0x2001, 0x55)]
        (fun s => { s with sp := 0x2000 })) fun t =>
      t.a == 0x55 && t.sp == 0x2002 && t.pc == 0x0101 && t.flags.pack == 0x02 && t.cycles == 10 &&
        t.returned == 1 := by decide

/-- V99. -/
theorem test_xthl :
    ends (prep 0x0100 [0xE3] [(0x10AD, 0xF0), (0x10AE, 0x0D)]
        (fun s => { s with sp := 0x10AD, h := 0x0B, l := 0x3C })) fun t =>
      t.h == 0x0D && t.l == 0xF0 && t.pc == 0x0101 && memRead t 0x10AD == 0x3C &&
        memRead t 0x10AE == 0x0B && t.flags.pack == 0x02 && t.cycles == 18 &&
        t.returned == 1 := by decide

/-- V100. -/
theorem test_sphl :
    ends (prep 0x0100 [0xF9] [] (fun s => { s with h := 0x50, l := 0x6C })) fun t =>
      t.sp == 0x506C && t.pc == 0x0101 && t.flags.pack == 0x02 && t.cycles == 5 &&
        t.returned == 1 := by decide

/-- V101. -/
theorem test_in_without_handler :
    stops (prep 0x0100 [0xDB, 0x07] []
        (fun s => { s with a := 0x12 })) (.unimplementedInPort 0x7) fun t =>
      t.pc == 0x0100 && t.cycles == 0 := by decide

/-- V102. -/
theorem test_out_without_handler :
    stops (prep 0x0100 [0xD3, 0x07] []
        (fun s => { s with a := 0x12 })) (.unimplementedOutPort 0x7) fun t =>
      t.pc == 0x0100 && t.cycles == 0 := by decide

/-- V103. -/
theorem test_ei :
    ends (prep 0x0100 [0xFB] [] id) fun t =>
      t.pc == 0x0101 && t.inte && t.flags.pack == 0x02 && t.cycles == 4 &&
        t.returned == 1 := by decide

/-- V104. -/
theorem test_di :
    ends (prep 0x0100 [0xF3] [] (fun s => { s with inte := true })) fun t =>
      t.pc == 0x0101 && !t.inte && t.flags.pack == 0x02 && t.cycles == 4 &&
        t.returned == 1 := by decide

/-- V105. -/
theorem test_hlt :
    ends (prep 0x0100 [0x76] [] id) fun t =>
      t.pc == 0x0100 && t.halted && t.flags.pack == 0x02 && t.cycles == 7 &&
        t.returned == haltSentinel := by decide

/-- V106. -/
theorem test_nop :
    ends (prep 0x0100 [0x00] [] id) fun t =>
      t.pc == 0x0101 && t.flags.pack == 0x02 && t.cycles == 4 && t.returned == 1 := by decide

/-- V107. -/
theorem test_illegal_08 :
    stops (prep 0x0100 [0x08] [] id) (.invalidInstruction 0x100 0x8) fun t =>
      t.pc == 0x0100 && t.cycles == 0 := by decide

/-- V118. -/
theorem test_illegal_fd :
    stops (prep 0x0100 [0xFD] [] id) (.invalidInstruction 0x100 0xFD) fun t =>
      t.pc == 0x0100 && t.cycles == 0 := by decide

/-- V22 with the operand in memory (R101). -/
theorem test_add_m :
    ends (prep 0x0100 [0x86] [(0x2000, 0xC6)] (fun s => { s with h := 0x20, a := 0x3A })) fun t =>
      t.a == 0x00 && t.pc == 0x0101 && t.flags.pack == 0x57 && t.cycles == 7 := by decide

/-- R103 by hand: 0x0F + 0x01 + 1 = 0x11 with a carry out of bit 3 and two 1 bits. -/
theorem test_adc_m :
    ends (prep 0x0100 [0x8E] [(0x2000, 0x01)]
        (fun s => { s with h := 0x20, a := 0x0F, flags := { s.flags with cy := true } })) fun t =>
      t.a == 0x11 && t.flags.pack == 0x16 && t.cycles == 7 := by decide

/-- V28 with the operand in memory (R105). -/
theorem test_sub_m :
    ends (prep 0x0100 [0x96] [(0x2000, 0x01)] (fun s => { s with h := 0x20, a := 0x10 })) fun t =>
      t.a == 0x0F && t.flags.pack == 0x16 && t.cycles == 7 := by decide

/-- V31 with the operand in memory (R107). -/
theorem test_sbb_m :
    ends (prep 0x0100 [0x9E] [(0x2000, 0x05)]
        (fun s => { s with h := 0x20, a := 0x05, flags := { s.flags with cy := true } })) fun t =>
      t.a == 0xFF && t.flags.pack == 0x97 && t.cycles == 7 := by decide

/-- V53 with the operand in memory (R115). -/
theorem test_ana_m :
    ends (prep 0x0100 [0xA6] [(0x2000, 0x0F)]
        (fun s => { s with
            h := 0x20, a := 0xFC
            flags := { s.flags with cy := true, ac := true } })) fun t =>
      t.a == 0x0C && t.flags.pack == 0x06 && t.cycles == 7 := by decide

/-- V57 with the operand in memory (R117). -/
theorem test_xra_m :
    ends (prep 0x0100 [0xAE] [(0x2000, 0xFF)] (fun s => { s with h := 0x20, a := 0x3B })) fun t =>
      t.a == 0xC4 && t.flags.pack == 0x82 && t.cycles == 7 := by decide

/-- V59 with the operand in memory (R119). -/
theorem test_ora_m :
    ends (prep 0x0100 [0xB6] [(0x2000, 0x01)] (fun s => { s with h := 0x20, a := 0x80 })) fun t =>
      t.a == 0x81 && t.flags.pack == 0x86 && t.cycles == 7 := by decide

/-- V60 with the operand in memory (R121). -/
theorem test_cmp_m :
    ends (prep 0x0100 [0xBE] [(0x2000, 0x0A)] (fun s => { s with h := 0x20, a := 0x05 })) fun t =>
      t.a == 0x05 && t.flags.pack == 0x93 && t.cycles == 7 := by decide

/-- V37 with the operand in memory (R110). -/
theorem test_dcr_m :
    ends (prep 0x0100 [0x35] [] (fun s => { s with h := 0x20 })) fun t =>
      memRead t 0x2000 == 0xFF && t.flags.pack == 0x96 && t.cycles == 10 := by decide

/-- I7. -/
theorem test_in_with_handler :
    ends (prep 0x0100 [0xDB, 0x01] []
        (fun s => { s with
            inHandlers := [0x01]
            replies := [{ value := 0x08, portWrites := [] }] })) fun t =>
      t.a == 0x08 && t.pc == 0x0102 && t.flags.pack == 0x02 && t.cycles == 10 &&
        t.returned == 2 := by decide

/-- I8. -/
theorem test_out_with_handler :
    ends (prep 0x0100 [0xD3, 0x02] [] (fun s => { s with
            a := 0x41, outHandlers := [0x02] })) fun t =>
      t.hostLog == [.outCall 0x02 0x41] && t.pc == 0x0102 && t.cycles == 10 &&
        t.returned == 2 := by decide

/-- I9. -/
theorem test_mirrored_push :
    ends (prep 0x0100 [0xC5] []
        (fun s => { s with
            b := 0x12, c := 0x34, sp := 0x1000
            cfg := { s.cfg with mirrorOffset := 0x8000 } })) fun t =>
      memRead t 0x0FFF == 0x12 && memRead t 0x0FFE == 0x34 && memRead t 0x8FFF == 0x12 &&
        memRead t 0x8FFE == 0x34 && t.sp == 0x0FFE && t.cycles == 11 := by decide

/-- I10. -/
theorem test_diagnostic_print :
    ends (prep 0x0100 [0xCD, 0x05, 0x00] []
        (fun s => { s with
            diagMode := true, sp := 0x2400, c := 0x09, d := 0x01, e := 0x0B })) fun t =>
      t.hostLog.length == 1 && t.sp == 0x2400 && memRead t 0x23FF == 0x00 && t.pc == 0x0103 &&
        t.cycles == 17 && t.returned == 3 := by decide

/-- I11. -/
theorem test_diagnostic_exit :
    ends (prep 0x0108 [0xCD, 0x00, 0x00] []
        (fun s => { s with diagMode := true, sp := 0x2400 })) fun t =>
      t.halted && t.pc == 0x0108 && t.sp == 0x2400 && t.cycles == 17 &&
        t.returned == haltSentinel := by decide

/-- I12. -/
theorem test_conditional_call_not_intercepted :
    ends (prep 0x0100 [0xDC, 0x05, 0x00] []
        (fun s => { s with
            diagMode := true, sp := 0x2400
            flags := { s.flags with cy := true } })) fun t =>
      memRead t 0x23FF == 0x01 && memRead t 0x23FE == 0x03 && t.sp == 0x23FE && t.pc == 0x0005 &&
        t.cycles == 17 := by decide

/-! ### Interrupts, pins, safe mode, Run (vectors I1 to I17) -/

/-- I1. -/
theorem test_interrupt_entry :
    goesOn (generateInterrupt 1 { prep 0x0123 [] [] id with sp := 0x2400, inte := true }) fun t =>
      memRead t 0x23FF == 0x01 && memRead t 0x23FE == 0x23 && t.sp == 0x23FE && t.pc == 0x0008 &&
        !t.inte && t.cycles == 0 := by decide

/-- I2. -/
theorem test_interrupt_while_halted :
    goesOn
        (generateInterrupt 7
          { prep 0x0010 [0x76] [] id with sp := 0x2400, inte := true, halted := true }) fun t =>
      memRead t 0x23FE == 0x10 && t.pc == 0x0038 && !t.halted && !t.inte := by decide

/-- I4. -/
theorem test_interrupt_out_of_range :
    generateInterrupt 8 State.reset = .refused (.rstOutOfRange 8) := by rfl

/-- I5. -/
theorem test_interrupt_entry_fault :
    faultsWith (generateInterrupt 0 { guarded 0x23FF 0x23FF (prep 0x0200 [] [] id) with sp := 0x2400 })
        (.readOnlyWrite 0x23FF) fun t =>
      t.sp == 0x2400 && t.pc == 0x0200 && t.mem == [] := by decide

/-- I6. -/
theorem test_pins :
    goesOn (setPin "INTE" true State.reset) (fun t => t.inte) = true ∧
      goesOn (setPin "HOLD" true State.reset) (fun t => t.hold && !t.inte) = true ∧
      setPin "FOO" true State.reset = .refused (.invalidPinName "FOO") :=
  ⟨by decide, by decide, by rfl⟩

/-- The state of I14 before its second Step: IN 7 without a handler. -/
def beforeIn : State :=
  safe (prep 0x0102 [0xDB, 0x07] [] fun s => { s with a := 0x42, cycles := 7 })

/-- I14, Step 2. -/
theorem test_safe_mode_fault :
    ends beforeIn fun t =>
      t.pendingFault && t.pc == 0x0103 && t.a == 0x42 && t.cycles == 7 && t.returned == 1 &&
        t.snapStack == [beforeIn.snapshot] := by decide

/-- I14, Step 3: the retry, with the handler installed that answers 0x99. -/
theorem test_safe_mode_retry :
    ends
        { beforeIn with
          pc := 0x0103, a := 0xEE, pendingFault := true, snapStack := [beforeIn.snapshot]
          inHandlers := [0x07], replies := [{ value := 0x99, portWrites := [] }] } fun t =>
      !t.pendingFault && t.a == 0x99 && t.pc == 0x0104 && t.cycles == 17 && t.returned == 2 &&
        t.snapStack.length == 1 := by decide

/-- How a Run ended, and a property of its last state. -/
def runEnds (r : RunEnd) (halted fault : Bool) (p : State → Bool) : Bool :=
  match r with
  | .halted t => halted && p t
  | .faultReported t => fault && p t
  | .budgetSpent t => !halted && !fault && p t
  | _ => false

/-- I15, from the state before its second Step. -/
theorem test_run_stops_at_a_fault :
    runEnds (run 1000 false beforeIn) false true (fun t => t.pendingFault) = true := by decide

/-- I16. -/
theorem test_run_stops_on_budget :
    runEnds (run 25 false (prep 0x0000 [0xC3, 0x00, 0x00] [] id)) false false
      (fun t => t.cycles == 30 && t.pc == 0x0000) = true := by decide

/-- I17. -/
theorem test_run_stops_at_hlt :
    runEnds (run 1000 false (prep 0x0000 [0x76] [] id)) true false
      (fun t => t.halted && t.cycles == 7 && t.pc == 0x0000) = true := by decide

/-- A fault outside safe mode ends the Run (R153). -/
theorem test_run_faults :
    run 10 false (prep 0x0000 [0x08] [] id) =
      .fault (.invalidInstruction 0x0000 0x08
        { prep 0x0000 [0x08] [] id with iterations := 1 }) := by rfl

/-- R172: the trace shows the instruction about to be executed. -/
theorem test_trace_record :
    (traceRecord (prep 0x0100 [0x06, 0x05] [] id)).instr = .mviR .b 0x05 ∧
      (traceRecord (prep 0x0100 [0x06, 0x05] [] id)).flagByte = 0x02 := by decide

/-- R175: an image is copied byte for byte, up to the last address and no further. -/
theorem test_load_image :
    goesOn (loadImage 0xFFFE [0x12, 0x34] State.reset)
      (fun t => memRead t 0xFFFE == 0x12 && memRead t 0xFFFF == 0x34) = true ∧
    loadImage 0xFFFE [0x12, 0x34, 0x56] State.reset = .refused (.imageOutOfRange 0xFFFE 3) :=
  ⟨by decide, by rfl⟩

/-- The canonical form: storing 0x00 leaves no cell. -/
theorem test_memory_is_canonical :
    Memory.write (Memory.write [] 0x10 0x05) 0x10 0x00 = [] ∧
      Memory.write (Memory.write [] 0x20 0x01) 0x10 0x05 = [(0x10, 0x05), (0x20, 0x01)] := by decide

/-! ### Witnesses: states and operands that meet the hypotheses of the obligations -/

/-- A state with distinct register values, HL = 0x2000 and SP = 0x2400. -/
def w : State :=
  prep 0x0100 [0x00] [(0x2000, 0x5C), (0x2400, 0x34), (0x2401, 0x12)] fun s =>
    { s with a := 0x3A, b := 0x12, c := 0x34, d := 0x20, e := 0x01, h := 0x20, l := 0x00, sp := 0x2400 }

/-- `w` with every flag set. -/
def wAll : State := { w with flags := { z := true, s := true, p := true, cy := true, ac := true } }

/-- `w` with the other AC rule. -/
def wIntel : State := { w with cfg := { w.cfg with acSubRule := .intelComplement } }

/-- `w` with mirroring. -/
def mirrored (off : Word) (s : State) : State := { s with cfg := { s.cfg with mirrorOffset := off } }

/-- `w` about to execute `code`. -/
def at100 (code : List Byte) : State := { w with mem := placeBytes code 0x0100 w.mem }

theorem witness_RegisterLoads :
    loadForm w (.movRR .a .b) = some ([0x78], .a, 0x12, 5) ∧
    loadForm w (.movRM .h) = some ([0x66], .h, 0x5C, 7) ∧
    loadForm w (.mviR .l 0xFF) = some ([0x2E, 0xFF], .l, 0xFF, 7) ∧
    loadForm w (.lda 0xFFFF) = some ([0x3A, 0xFF, 0xFF], .a, 0x00, 13) ∧
    loadForm w (.ldax .de) = some ([0x1A], .a, 0x00, 7) := by
  and_intros <;> rfl

/-- Each store, unguarded and with its address the one read-only byte. -/
theorem witness_ByteStores :
    (storeForm w (.movMR .h) = some ([0x74], 0x2000, 0x20, 7) ∧
      storeForm w (.mviM 0x01) = some ([0x36, 0x01], 0x2000, 0x01, 10) ∧
      storeForm w (.sta 0xFFFF) = some ([0x32, 0xFF, 0xFF], 0xFFFF, 0x3A, 13) ∧
      storeForm w (.stax .de) = some ([0x12], 0x2001, 0x3A, 7)) ∧
    (writeFault w.cfg 0x2000 = none ∧ writeFault w.cfg 0xFFFF = none ∧
      writeFault w.cfg 0x2001 = none) ∧
    writeFault (guarded 0x2000 0x2000 w).cfg 0x2000 = some (.readOnlyWrite 0x2000) ∧
    writeFault (guarded 0x2000 0x2000 w).cfg 0x2001 = none ∧
    writeFault (guarded 0x2000 0x2000 w).cfg 0x1FFF = none := by
  and_intros <;> rfl

theorem witness_PairLoads :
    pairForm w (.lxi .sp 0xFFFF) = some ([0x31, 0xFF, 0xFF], .sp, 0xFFFF, 10, false) ∧
    pairForm w (.lhld 0x2400) = some ([0x2A, 0x00, 0x24], .hl, 0x1234, 16, false) ∧
    pairForm w (.inx .hl) = some ([0x23], .hl, 0x2001, 5, false) ∧
    pairForm w (.dcx .sp) = some ([0x3B], .sp, 0x23FF, 5, false) ∧
    pairForm w (.popRp .bc) = some ([0xC1], .bc, 0x1234, 10, true) := by
  and_intros <;> rfl

/-- SHLD at 0xFFFF: the second byte is 0x0000; neither, the first, or only the second is read-only. -/
theorem witness_ShldStores :
    (writeFault w.cfg 0xFFFF = none ∧ writeFault w.cfg (0xFFFF + 1) = none) ∧
    writeFault (guarded 0xFFFF 0xFFFF w).cfg 0xFFFF = some (.readOnlyWrite 0xFFFF) ∧
    writeFault (guarded 0x0000 0x0000 w).cfg 0xFFFF = none ∧
    writeFault (guarded 0x0000 0x0000 w).cfg (0xFFFF + 1) = some (.readOnlyWrite 0x0000) := by
  and_intros <;> rfl

theorem witness_Additions :
    addForm wAll (.addR .a) = some ([0x87], 0x3A, false, 4) ∧
    addForm wAll .addM = some ([0x86], 0x5C, false, 7) ∧
    addForm wAll (.adi 0xC6) = some ([0xC6, 0xC6], 0xC6, false, 7) ∧
    addForm wAll (.adcR .b) = some ([0x88], 0x12, true, 4) ∧
    addForm wAll .adcM = some ([0x8E], 0x5C, true, 7) ∧
    addForm wAll (.aci 0xFF) = some ([0xCE, 0xFF], 0xFF, true, 7) := by
  and_intros <;> rfl

/-- Every form, and both AC rules. -/
theorem witness_Subtractions :
    (subForm wAll (.subR .a) = some ([0x97], 0x3A, false, false, 4) ∧
      subForm wAll .subM = some ([0x96], 0x5C, false, false, 7) ∧
      subForm wAll (.sui 0x3B) = some ([0xD6, 0x3B], 0x3B, false, false, 7) ∧
      subForm wAll (.sbbR .b) = some ([0x98], 0x12, true, false, 4) ∧
      subForm wAll .sbbM = some ([0x9E], 0x5C, true, false, 7) ∧
      subForm wAll (.sbi 0xFF) = some ([0xDE, 0xFF], 0xFF, true, false, 7)) ∧
    (subForm wAll (.cmpR .c) = some ([0xB9], 0x34, false, true, 4) ∧
      subForm wAll .cmpM = some ([0xBE], 0x5C, false, true, 7) ∧
      subForm wAll (.cpi 0x3A) = some ([0xFE, 0x3A], 0x3A, false, true, 7)) ∧
    wAll.cfg.acSubRule = .halfBorrow ∧ wIntel.cfg.acSubRule = .intelComplement := by
  and_intros <;> rfl

/-- INR M and DCR M: the byte at HL writable, and read-only; both AC rules. -/
theorem witness_IncrementsAndDecrements :
    writeFault w.cfg w.hl = none ∧
    writeFault (guarded 0x1000 0x2000 w).cfg w.hl = some (.readOnlyWrite 0x2000) ∧
    w.cfg.acSubRule = .halfBorrow ∧ wIntel.cfg.acSubRule = .intelComplement := by
  and_intros <;> rfl

/-- DAA: the high correction by each of its three causes alone, and none (A and CY; `a1` is A after the low
correction). -/
theorem witness_Daa :
    (9 < (0x9A + 6) % 256 / 16 ∧ ¬9 < 0x9A / 16 ∧ (0x9A : Byte).toNat = 0x9A) ∧
      (¬9 < (0xFA + 6) % 256 / 16 ∧ 9 < 0xFA / 16) ∧ wAll.flags.cy = true ∧
      ¬(9 < 0x99 / 16 ∨ 9 < 0x99 / 16 ∨ w.flags.cy = true) := by decide

/-- 99 + 99 and 0 + 0. -/
theorem witness_AddThenDaa :
    ({ w with a := 0x99, b := 0x99 }).a = bcd 99 ∧ ({ w with a := 0x99, b := 0x99 }).b = bcd 99 ∧
      State.reset.a = bcd 0 ∧ State.reset.b = bcd 0 := by decide

theorem witness_Logical :
    logicForm w (.anaR .b) = some ([0xA0], 0x12, 4) ∧
    logicForm w .anaM = some ([0xA6], 0x18, 7) ∧
    logicForm w (.ani 0x0F) = some ([0xE6, 0x0F], 0x0A, 7) ∧
    logicForm w (.xraR .a) = some ([0xAF], 0x00, 4) ∧
    logicForm w .xraM = some ([0xAE], 0x66, 7) ∧
    logicForm w (.xri 0xFF) = some ([0xEE, 0xFF], 0xC5, 7) ∧
    logicForm w (.oraR .c) = some ([0xB1], 0x3E, 4) ∧
    logicForm w .oraM = some ([0xB6], 0x7E, 7) ∧
    logicForm w (.ori 0x01) = some ([0xF6, 0x01], 0x3B, 7) := by
  and_intros <;> rfl

theorem witness_Rotates :
    (rotateForm w .rlc).isSome = true ∧ (rotateForm w .rrc).isSome = true ∧
      (rotateForm wAll .ral).isSome = true ∧ (rotateForm wAll .rar).isSome = true := by
  and_intros <;> rfl

theorem witness_NineRotations :
    (Instr.ral = .ral ∨ Instr.ral = .rar) ∧ (Instr.rar = .ral ∨ Instr.rar = .rar) := by decide

/-- Each condition is met in one of two states and not met in the other. -/
theorem witness_Conditions :
    (condTrue w.flags .nz ∧ condTrue w.flags .nc ∧ condTrue w.flags .po ∧ condTrue w.flags .p) ∧
    (condTrue wAll.flags .z ∧ condTrue wAll.flags .c ∧ condTrue wAll.flags .pe ∧
      condTrue wAll.flags .m) ∧
    (¬condTrue wAll.flags .nz ∧ ¬condTrue wAll.flags .nc ∧ ¬condTrue wAll.flags .po ∧
      ¬condTrue wAll.flags .p) ∧
    (¬condTrue w.flags .z ∧ ¬condTrue w.flags .c ∧ ¬condTrue w.flags .pe ∧
      ¬condTrue w.flags .m) := by
  simp [condTrue, w, wAll, prep, State.reset]

/-- A CALL outside diagnostic mode (to 5 too) and inside it (not to 5 or 0), a taken Ccc, the RSTs. -/
theorem witness_Calls :
    callForm w (.call 0x0005) =
      some ([0xCD, 0x05, 0x00], w.diagMode = false ∨ (5 : Word) ≠ 5 ∧ (5 : Word) ≠ 0, 0x0005, 17) ∧
    w.diagMode = false ∧
    ({ w with diagMode := true }.diagMode = false ∨ (6 : Word) ≠ 0x0005 ∧ (6 : Word) ≠ 0x0000) ∧
    callForm wAll (.ccc .z 0x0400) = some ([0xCC, 0x00, 0x04], condTrue wAll.flags .z, 0x0400, 17) ∧
    callForm w (.rst 0) = some ([0xC7], True, 0x0000, 11) ∧
    callForm w (.rst 7) = some ([0xFF], True, 0x0038, 11) :=
  ⟨rfl, rfl, .inr (by decide), rfl, rfl, rfl⟩

/-- The two bytes a push writes: both writable, the high one read-only, only the low one read-only, and
the high one's mirror out of range. -/
theorem witness_TwoStackWrites :
    (writeFault w.cfg (w.sp - 1) = none ∧ writeFault w.cfg (w.sp - 2) = none) ∧
    writeFault (guarded 0x23FF 0x23FF w).cfg (w.sp - 1) = some (.readOnlyWrite 0x23FF) ∧
    writeFault (guarded 0x23FE 0x23FE w).cfg (w.sp - 1) = none ∧
    writeFault (guarded 0x23FE 0x23FE w).cfg (w.sp - 2) = some (.readOnlyWrite 0x23FE) ∧
    writeFault (mirrored 0xDC01 w).cfg (w.sp - 1) = some (.mirrorOutOfRange 0x23FF) ∧
    writeFault (mirrored 0xDC00 w).cfg (w.sp - 1) = none := by
  and_intros <;> rfl

/-- Calls that go on, one with a mirror; the mirror offset is not 1. -/
theorem witness_ReturnUndoesCall :
    callForm (mirrored 0x8000 w) (.rst 5) = some ([0xEF], True, 0x0028, 11) ∧
    (∃ t, exec (.rst 5) (mirrored 0x8000 w) = .next t) ∧
    (mirrored 0x8000 w).cfg.mirrorOffset ≠ 1 := by
  exact ⟨rfl, ⟨_, rfl⟩, by decide⟩

theorem witness_DiagnosticCalls : ({ w with diagMode := true }).diagMode = true := by decide

theorem witness_Pushes :
    pushForm w (.pushRp .bc) = some ([0xC5], 0x12, 0x34) ∧
    pushForm w (.pushRp .de) = some ([0xD5], 0x20, 0x01) ∧
    pushForm w (.pushRp .hl) = some ([0xE5], 0x20, 0x00) ∧
    pushForm w .pushPsw = some ([0xF5], 0x3A, 0x02) ∧
    pushForm wAll .pushPsw = some ([0xF5], 0x3A, 0xD7) := by
  and_intros <;> rfl

/-- XTHL: both bytes writable, the first read-only, only the second read-only. -/
theorem witness_Xthl :
    (writeFault w.cfg w.sp = none ∧ writeFault w.cfg (w.sp + 1) = none) ∧
    writeFault (guarded 0x2400 0x2400 w).cfg w.sp = some (.readOnlyWrite 0x2400) ∧
    writeFault (guarded 0x2401 0x2401 w).cfg w.sp = none ∧
    writeFault (guarded 0x2401 0x2401 w).cfg (w.sp + 1) = some (.readOnlyWrite 0x2401) := by
  and_intros <;> rfl

/-- Ports with and without a handler, no settled reply, and a settled one. -/
theorem witness_Ports :
    0x00 ∈ ({ w with inHandlers := [0x00, 0xFF] }).inHandlers ∧
    0xFF ∈ ({ w with outHandlers := [0x00, 0xFF] }).outHandlers ∧
    0x01 ∉ ({ w with inHandlers := [0x00, 0xFF] }).inHandlers ∧
    0xFE ∉ ({ w with outHandlers := [0x00, 0xFF] }).outHandlers ∧
    w.replies = [] ∧
    ({ w with replies := [{ value := 0x08, portWrites := [(0x01, 0x02)] }] }).replies =
      { value := 0x08, portWrites := [(0x01, 0x02)] } :: [] := by
  and_intros <;> decide

theorem witness_IllegalOpcodes :
    (at100 [0xCB]).cfg.safeMode = false ∧
      memRead (at100 [0xCB]) (at100 [0xCB]).pc ∈ illegalOpcodes := by decide

theorem witness_DecodeOfEncode :
    (Instr.jcc .m 0xFFFF).wellFormed = true ∧ (Instr.rst 7).wellFormed = true ∧
      (Instr.illegal 0xFD).wellFormed = true := by decide

theorem witness_EncodeOfDecode :
    decode [0xFA, 0xFF, 0xFF, 0x00] = .ok (.jcc .m 0xFFFF, [0x00]) := by rfl

/-- Outside safe mode, in it with a Step that goes on, and in it with one that faults. -/
theorem witness_StepRuns :
    w.cfg.safeMode = false ∧ (safe w).cfg.safeMode = true ∧ (safe w).pendingFault = false ∧
      (safe (at100 [0x08])).pendingFault = false ∧
      ends (safe (at100 [0x08])) (fun t => t.pendingFault) = true := by decide

/-- Instructions that go on: one that leaves PC to the Step, HLT, a diagnostic exit. -/
theorem witness_CompletingInstructions :
    (∃ t, exec .nop w = .next t) ∧ ¬setsPc w .nop ∧ (∃ t, exec .hlt w = .next t) ∧
      (∃ t, exec (.call 0x0000) { w with diagMode := true } = .next t ∧ t.halted = true) ∧
      (∃ t, exec .nop w = .next t ∧ t.halted = false) :=
  ⟨⟨_, rfl⟩, id, ⟨_, rfl⟩, ⟨_, rfl, rfl⟩, ⟨_, rfl, rfl⟩⟩

/-- Instructions outside each list. -/
theorem witness_Frames :
    Instr.nop ≠ .ei ∧ Instr.nop ≠ .di ∧ writesSp .nop = false ∧ writesMemory .nop = false ∧
      (∀ p, Instr.nop ≠ .inp p) ∧ (∀ p, Instr.nop ≠ .outp p) ∧
      writesFlags (.dad .sp) = (false, true) ∧ writesFlags (.inrR .a) = (true, false) :=
  ⟨by decide, by decide, rfl, rfl, fun _ => by simp, fun _ => by simp, rfl, rfl⟩

/-- The mirror bound: 0xFFFF is the last target in range. -/
theorem witness_MemoryWriteBound :
    (0x8000 : Word) ≠ 0 ∧ 65536 ≤ (0x8000 : Word).toNat + (0x8000 : Word).toNat ∧
      (0x7FFF : Word).toNat + (0x8000 : Word).toNat < 65536 := by decide

/-- Read-only ranges with the primary address, with the mirror address only, and with neither. -/
theorem witness_MemoryWriteRanges :
    inRoRange (guarded 0x2000 0x20FF w).cfg 0x20FF ∧
    (¬inRoRange (guarded 0xA000 0xA000 (mirrored 0x8000 w)).cfg 0x2000 ∧
      inRoRange (guarded 0xA000 0xA000 (mirrored 0x8000 w)).cfg (0x2000 + 0x8000)) ∧
    (¬inRoRange (guarded 0x2000 0x20FF w).cfg 0x2100 ∧ ¬inRoRange w.cfg 0x2000) := by
  simp [inRoRange, guarded, mirrored, w, prep, State.reset]

/-- Two memories in canonical form that read the same. -/
theorem witness_EqualReads :
    Memory.wf [(0x10, 0x05), (0xFFFF, 0x01)] = true ∧
      ∀ k, Memory.read [(0x10, 0x05), (0xFFFF, 0x01)] k =
        Memory.read (Memory.write (Memory.write [] 0xFFFF 0x01) 0x10 0x05) k := by
  exact ⟨by decide, fun _ => rfl⟩

/-- STA onto the next instruction, whose opcode becomes A. -/
theorem witness_FetchSeesTheStore :
    ∃ t, exec (.sta 0x0103) w = .next t ∧ t.cfg.safeMode = false := ⟨_, rfl, rfl⟩

/-- Each fault is raised by some instruction. -/
theorem witness_Faults :
    faultsWith (exec (.illegal 0x08) w) (.invalidInstruction 0x0100 0x08) (fun _ => true) = true ∧
    faultsWith (exec (.sta 0x2000) (guarded 0x2000 0x2000 w)) (.readOnlyWrite 0x2000)
      (fun _ => true) = true ∧
    faultsWith (exec (.sta 0x9000) (mirrored 0x8000 w)) (.mirrorOutOfRange 0x9000)
      (fun _ => true) = true ∧
    faultsWith (exec (.inp 0x07) w) (.unimplementedInPort 0x07) (fun _ => true) = true ∧
    faultsWith (exec (.outp 0x07) w) (.unimplementedOutPort 0x07) (fun _ => true) = true := by decide

/-- An interrupt entry that goes on, from a halted core; the boundary values of the vector number. -/
theorem witness_InterruptEntry :
    (∃ t, generateInterrupt 7 { w with halted := true } = .next t) ∧
      w.cfg.mirrorOffset ≠ 1 ∧ ((-1 : Int) < 0 ∨ 7 < (-1 : Int)) ∧ ((8 : Int) < 0 ∨ 7 < (8 : Int)) :=
  ⟨⟨_, rfl⟩, by decide, by decide, by decide⟩

theorem witness_UnknownPin : "inte" ≠ "INTE" ∧ "inte" ≠ "HOLD" ∧ "inte" ≠ "WAIT" := by decide

/-- A safe-mode state whose Step goes on outside safe mode, and one whose Step faults. -/
theorem witness_SafeModeIsTransparent :
    (safe w).cfg.safeMode = true ∧ (safe w).pendingFault = false ∧
      ends w (fun t => t.pc == 0x0101) = true ∧
      stops (at100 [0x08]) (.invalidInstruction 0x0100 0x08) (fun _ => true) = true := by decide

/-- A safe-mode Step that faults, in the middle of two stores. -/
theorem witness_RollBack :
    let s := safe (guarded 0x4001 0x4001 (at100 [0x22, 0x00, 0x40]))
    s.cfg.safeMode = true ∧ s.pendingFault = false ∧
      ends s (fun t => t.pendingFault && memRead t 0x4001 == 0x00) = true := by decide

/-- A state that meets the invariant, with a snapshot and a fault pending, and goes on. -/
theorem witness_Invariant :
    let s := { safe (at100 [0xFB]) with pendingFault := true, snapStack := [w.snapshot] }
    s.inv = true ∧ ends s (fun t => !t.pendingFault) = true := by decide

theorem witness_HostCall :
    w.inv = true ∧ goesOn (hostCall (.installIn 0x07) w) (fun t => t.inHandlers == [0x07]) = true := by
  decide

/-- A reachable state in safe mode. -/
theorem witness_Reachable :
    ∃ s, Reachable s ∧ s.cfg.safeMode = true :=
  ⟨_, .event (.host (.setSafeMode true)) .reset rfl, rfl⟩

/-- A Run that spends its budget, and one that halts in diagnostic mode. -/
theorem witness_Runs :
    w.pendingFault = false ∧ runEnds (run 3 false w) false false (fun t => t.cycles == 4) = true ∧
      runEnds (run 100 true (at100 [0xCD, 0x00, 0x00])) true false
        (fun t => t.halted && t.pc == 0x0100) = true := by decide

end Sys2Proof.Tests
end

section
/-! SUPPORT. The numbers behind bytes and words, decoding, and the shape of a Step's outcome: the layer the
proofs of the obligations rest on. -/

namespace Sys2Proof.Proofs

open Sys2Proof.Machine Sys2Proof.Claims

/-! ### A word and its two bytes, in numbers (R8) -/

@[simp] theorem toNat_joinBytes (hi lo : Byte) :
    (joinBytes hi lo).toNat = hi.toNat * 256 + lo.toNat := by
  rw [joinBytes, BitVec.toNat_append, ← Nat.shiftLeft_add_eq_or_of_lt lo.isLt, Nat.shiftLeft_eq]

@[simp] theorem toNat_hiByte (v : Word) : (hiByte v).toNat = v.toNat / 256 := by
  rw [hiByte, BitVec.extractLsb'_toNat, Nat.shiftRight_eq_div_pow]
  omega

@[simp] theorem toNat_loByte (v : Word) : (loByte v).toNat = v.toNat % 256 := by
  simp [loByte]

theorem joinBytes_eq_wordOf (hi lo : Byte) : joinBytes hi lo = wordOf hi lo := by
  apply BitVec.eq_of_toNat_eq
  rw [toNat_joinBytes, wordOf, BitVec.toNat_ofNat]
  omega

theorem byteOf_div_256 (v : Word) : byteOf (v.toNat / 256) = hiByte v := by
  rw [byteOf, ← toNat_hiByte, BitVec.ofNat_toNat, BitVec.setWidth_eq]

theorem byteOf_mod_256 (v : Word) : byteOf (v.toNat % 256) = loByte v := by
  rw [byteOf, ← toNat_loByte, BitVec.ofNat_toNat, BitVec.setWidth_eq]

/-! ### The 16-bit sum and difference made of two 8-bit ones (R86) -/

theorem aluAdd_toNat (x y : Byte) (cin : Bool) :
    (aluAdd x y cin).r.toNat = (x.toNat + y.toNat + cin.toNat) % 256 := by
  simp [aluAdd]

theorem aluAdd_cy (x y : Byte) (cin : Bool) :
    (aluAdd x y cin).cy.toNat = (x.toNat + y.toNat + cin.toNat) / 256 := by
  have hcin := Bool.toNat_le cin
  by_cases h : x.toNat + y.toNat + cin.toNat > 0xFF
  · simp only [aluAdd, h, decide_true, Bool.toNat_true]; omega
  · simp only [aluAdd, h, decide_false, Bool.toNat_false]; omega

/-- The result and the borrow of a subtraction, in one equation of naturals. -/
theorem aluSub_toNat (rule : AcSubRule) (x y : Byte) (bin : Bool) :
    (aluSub rule x y bin).r.toNat + y.toNat + bin.toNat =
      x.toNat + 256 * (aluSub rule x y bin).cy.toNat := by
  have hbin := Bool.toNat_le bin
  by_cases h : (x.toNat : Int) - y.toNat - bin.toNat < 0
  · simp only [aluSub, h, decide_true, Bool.toNat_true, BitVec.toNat_ofInt]; omega
  · simp only [aluSub, h, decide_false, Bool.toNat_false, BitVec.toNat_ofInt]; omega

/-- The sum of `add16` is the sum modulo 2^16. -/
theorem add16_fst (x y : Word) : (add16 x y).1 = x + y := by
  apply BitVec.eq_of_toNat_eq
  simp only [add16, toNat_joinBytes, aluAdd_toNat, aluAdd_cy, toNat_hiByte, toNat_loByte,
    Bool.toNat_false, BitVec.toNat_add]
  omega

/-- The difference of `sub16` is the difference modulo 2^16. -/
theorem sub16_fst (x y : Word) : (sub16 x y).1 = x - y := by
  have hlo := aluSub_toNat .halfBorrow (loByte x) (loByte y) false
  have hhi := aluSub_toNat .halfBorrow (hiByte x) (hiByte y)
    (aluSub .halfBorrow (loByte x) (loByte y) false).cy
  simp only [toNat_hiByte, toNat_loByte, Bool.toNat_false] at hlo hhi
  apply BitVec.eq_of_toNat_eq
  simp only [sub16, toNat_joinBytes, BitVec.toNat_sub]
  omega

/-! ### Decoding (R61, R62) -/

theorem decodes_one {op : Byte} {i : Instr} (hlen : opLength op = 1) (hop : decodeOp op 0 0 = i) :
    Decodes [op] i := by
  intro rest
  simp only [List.cons_append, List.nil_append, decode, hlen, hop]

theorem decodes_two {op b : Byte} {i : Instr} (hlen : opLength op = 2) (hop : decodeOp op b 0 = i) :
    Decodes [op, b] i := by
  intro rest
  simp only [List.cons_append, List.nil_append, decode, hlen, hop]

/-- A 16-bit operand, low byte first, reaches the instruction as the word it is (R61). -/
theorem decodes_withWord {n : Nat} {v : Word} {f : Word → Instr} (hlen : opLength (byteOf n) = 3)
    (hop : ∀ b1 b2, decodeOp (byteOf n) b1 b2 = f (joinBytes b2 b1)) :
    Decodes (withWord n v) (f v) := by
  intro rest
  simp [withWord, decode, hlen, hop, byteOf_div_256, byteOf_mod_256]

/-! ### What `start` and `advance` leave alone -/

@[simp] theorem start_reg (s : State) (q : Reg) : (start s).reg q = s.reg q := by cases q <;> rfl

@[simp] theorem advance_reg (n k : Nat) (s : State) (q : Reg) : (advance n k s).reg q = s.reg q := by
  cases q <;> rfl

@[simp] theorem start_hl (s : State) : (start s).hl = s.hl := rfl

@[simp] theorem start_indexPair (s : State) (p : IndexPair) :
    (start s).indexPair p = s.indexPair p := by cases p <;> rfl

@[simp] theorem start_spPair (s : State) (p : SpPair) : (start s).spPair p = s.spPair p := by
  cases p <;> rfl

@[simp] theorem advance_spPair (n k : Nat) (s : State) (p : SpPair) :
    (advance n k s).spPair p = s.spPair p := by cases p <;> rfl

@[simp] theorem memRead_start (s : State) (a : Word) : memRead (start s) a = memRead s a := rfl

/-- `advance` ends the Step, after a body that left PC, the cycles and `halted` alone (R77 to R79). -/
theorem ended_advance {s u : State} (n k : Nat) (hpc : u.pc = s.pc) (hcycles : u.cycles = s.cycles)
    (hhalted : u.halted = false) : Ended s (advance n k u) n k :=
  ⟨by simp [hpc], by simp [hcycles], by simp [hhalted], rfl⟩

/-! ### Byte writes (R37) -/

/-- The state after a byte write that passed its check. -/
def storeByte (a : Word) (v : Byte) (s : State) : State :=
  { s with mem := storeAll v (writeTargets s.cfg a) s.mem }

theorem memWrite_eq_storeByte {s : State} {a : Word} (v : Byte) (h : writeFault s.cfg a = none) :
    memWrite a v s = .next (storeByte a v s) :=
  memWrite_of_none v h

/-- Where the check passes, the addresses a byte write stores to are the primary one and its mirror,
which does not wrap around. -/
theorem mem_writeTargets_iff {cfg : CoreConfig} {a : Word} (h : writeFault cfg a = none) (x : Word) :
    x.toNat ∈ (writeTargets cfg a).map BitVec.toNat ↔ hits cfg a x = true := by
  by_cases hoff : cfg.mirrorOffset = 0
  · simp [writeTargets, hits, hoff, BitVec.toNat_inj]
  · have hbound : ¬ a.toNat + cfg.mirrorOffset.toNat > 0xFFFF := by
      intro hgt
      rw [writeFault, if_pos ⟨hoff, hgt⟩] at h
      cases h
    have hmirror : (a + cfg.mirrorOffset).toNat = a.toNat + cfg.mirrorOffset.toNat := by
      rw [BitVec.toNat_add]; omega
    simp only [writeTargets, hits, hoff, if_false, List.map_cons, List.map_nil, List.mem_cons,
      List.not_mem_nil, or_false, hmirror, BitVec.toNat_inj, decide_eq_true_eq, ne_eq,
      not_false_eq_true, true_and]

/-- The memory after an accepted byte write, at every address. -/
theorem read_storeAll_writeTargets {cfg : CoreConfig} {a : Word} (h : writeFault cfg a = none)
    (v : Byte) (m : Memory) (x : Word) :
    (storeAll v (writeTargets cfg a) m).read x.toNat = if hits cfg a x then v else m.read x.toNat := by
  simp only [storeAll_read, mem_writeTargets_iff h]

theorem wrote_storeByte {s : State} {a : Word} (v : Byte) (h : writeFault s.cfg a = none) :
    Wrote s (storeByte a v (start s)) a v :=
  read_storeAll_writeTargets h v s.mem

theorem wroteTwo_storeByte {s : State} {a b : Word} (v w : Byte) (ha : writeFault s.cfg a = none)
    (hb : writeFault s.cfg b = none) :
    WroteTwo s (storeByte b w (storeByte a v (start s))) a v b w := by
  intro x
  calc memRead (storeByte b w (storeByte a v (start s))) x
      = if hits s.cfg b x then w else memRead (storeByte a v (start s)) x :=
        read_storeAll_writeTargets hb w _ x
    _ = _ := by rw [wrote_storeByte v ha x]

/-! ### Instructions that end in one or two byte writes (R40, R154) -/

theorem stopsWith_faultOf {i : Instr} {s left : State} {cause : FaultCause}
    (h : exec i s = .fault (faultOf cause left)) : StopsWith i s cause left :=
  ⟨_, h, faultOf_cause cause left, faultOf_left cause left⟩

section OneWrite

variable {i : Instr} {s : State} {a : Word} {v : Byte} {f : State → Result}

theorem exec_oneWrite_next (hexec : exec i s = andThen (memWrite a v (start s)) f)
    (ha : writeFault s.cfg a = none) : exec i s = f (storeByte a v (start s)) := by
  rw [hexec, memWrite_eq_storeByte v (s := start s) ha, andThen_next]

theorem stopsWith_of_firstWrite (hexec : exec i s = andThen (memWrite a v (start s)) f)
    {cause : FaultCause} (ha : writeFault s.cfg a = some cause) :
    StopsWith i s cause { s with halted := false } := by
  apply stopsWith_faultOf
  rw [hexec, memWrite_of_some v (s := start s) ha, andThen_fault]
  rfl

end OneWrite

section TwoWrites

variable {i : Instr} {s : State} {a b : Word} {v w : Byte} {f : State → Result}

theorem exec_twoWrites_next
    (hexec : exec i s = andThen (memWrite a v (start s)) fun t => andThen (memWrite b w t) f)
    (ha : writeFault s.cfg a = none) (hb : writeFault s.cfg b = none) :
    exec i s = f (storeByte b w (storeByte a v (start s))) := by
  rw [exec_oneWrite_next hexec ha, memWrite_eq_storeByte w (s := storeByte a v (start s)) hb,
    andThen_next]

/-- A fault on the second write leaves the first byte written (R154). -/
theorem stopsInTwoWrites
    (hexec : exec i s = andThen (memWrite a v (start s)) fun t => andThen (memWrite b w t) f) :
    StopsInTwoWrites i s a v b := by
  refine ⟨fun cause ha => stopsWith_of_firstWrite hexec ha, fun cause ha hb => ?_⟩
  refine ⟨storeByte a v (start s), stopsWith_faultOf ?_, wrote_storeByte v ha, rfl⟩
  rw [exec_oneWrite_next hexec ha, memWrite_of_some w (s := storeByte a v (start s)) hb,
    andThen_fault]

end TwoWrites

theorem andThen_assoc {α β γ : Type} (r : ResultOf α) (f : α → ResultOf β) (g : β → ResultOf γ) :
    andThen (andThen r f) g = andThen r fun x => andThen (f x) g := by
  cases r <;> rfl

end Sys2Proof.Proofs
end

section
/-! SUPPORT. The proofs of the data transfer obligations (42_data_transfer.md). -/

namespace Sys2Proof.Proofs

open Sys2Proof.Machine Sys2Proof.Claims

/-! ### The loads of an 8-bit register -/

theorem onlyRegs_setReg (s : State) (r : Reg) (v : Byte) (n k : Nat) :
    OnlyRegs s (advance n k ((start s).setReg r v)) := by
  cases r <;> rfl

/-- Each load decodes from its bytes, and is: write the destination, then end the Step. -/
theorem loadForm_spec {s : State} {i : Instr} {bytes : List Byte} {dst : Reg} {v : Byte} {cost : Nat}
    (h : loadForm s i = some (bytes, dst, v, cost)) :
    Decodes bytes i ∧ exec i s = .next (advance bytes.length cost ((start s).setReg dst v)) := by
  cases i with
  | movRR dst src =>
    cases h
    refine ⟨decodes_one ?_ ?_, by simp [exec, execMovRR, plain]⟩ <;> cases dst <;> cases src <;> rfl
  | movRM dst =>
    cases h
    refine ⟨decodes_one ?_ ?_, rfl⟩ <;> cases dst <;> rfl
  | mviR dst v =>
    cases h
    refine ⟨decodes_two ?_ ?_, rfl⟩ <;> cases dst <;> rfl
  | lda a =>
    cases h
    exact ⟨decodes_withWord rfl fun _ _ => rfl, rfl⟩
  | ldax p =>
    cases h
    refine ⟨decodes_one ?_ ?_, by simp [exec, execLdax, plain, State.setReg]⟩ <;> cases p <;> rfl
  | _ => cases h

/-- Settles O1: every load is one `setReg`, which keeps the other registers. -/
theorem registerLoadsWriteOnlyTheirDestination :
    Obligations.RegisterLoadsWriteOnlyTheirDestination := by
  intro s i bytes dst v cost h
  obtain ⟨hdecode, hexec⟩ := loadForm_spec h
  refine ⟨hdecode, _, hexec, by simp, fun q hq => ?_, onlyRegs_setReg s dst v _ _, ?_⟩
  · rw [advance_reg, reg_setReg_other _ v hq, start_reg]
  · exact ended_advance _ _ (by simp) (by simp) (by simp)

/-! ### The stores of one byte -/

/-- Each byte store decodes from its bytes, and is: one byte write, then end the Step. -/
theorem storeForm_spec {s : State} {i : Instr} {bytes : List Byte} {a : Word} {v : Byte} {cost : Nat}
    (h : storeForm s i = some (bytes, a, v, cost)) :
    Decodes bytes i ∧
      exec i s = andThen (memWrite a v (start s)) fun t => .next (advance bytes.length cost t) := by
  cases i with
  | movMR src =>
    cases h
    refine ⟨decodes_one ?_ ?_, by simp [exec, execMovMR, faulting]⟩ <;> cases src <;> rfl
  | mviM v =>
    cases h
    exact ⟨decodes_two rfl rfl, rfl⟩
  | sta a =>
    cases h
    exact ⟨decodes_withWord rfl fun _ _ => rfl, rfl⟩
  | stax p =>
    cases h
    refine ⟨decodes_one ?_ ?_, by simp [exec, execStax, faulting]⟩ <;> cases p <;> rfl
  | _ => cases h

/-- Settles O2: every byte store is one `memWrite`. -/
theorem byteStoresWriteOneByte : Obligations.ByteStoresWriteOneByte := by
  intro s i bytes a v cost h
  obtain ⟨hdecode, hexec⟩ := storeForm_spec h
  refine ⟨hdecode, fun ha => ?_, fun cause ha => stopsWith_of_firstWrite hexec ha⟩
  have hnext := exec_oneWrite_next hexec ha
  exact ⟨_, hnext, wrote_storeByte v ha, rfl, ended_advance _ _ rfl rfl rfl⟩

/-! ### The loads of a pair -/

/-- The state a pair load writes its pair in: started, and past two popped bytes if it `pops`. -/
def pairLoadBase (pops : Bool) (s : State) : State :=
  { start s with sp := if pops then s.sp + 2 else s.sp }

theorem pairLoadBase_false (s : State) : pairLoadBase false s = start s := rfl

theorem pairLoadBase_true (s : State) : pairLoadBase true s = popped (start s) := rfl

theorem spPair_pairLoadBase (pops : Bool) (s : State) {q : SpPair} (h : q ≠ .sp) :
    (pairLoadBase pops s).spPair q = s.spPair q := by
  cases q with
  | sp => exact absurd rfl h
  | bc | de | hl => rfl

theorem setPair_eq_setSpPair (s : State) (p : Pair) (v : Word) :
    s.setPair p v = s.setSpPair (widen p) v := by
  cases p <;> rfl

theorem spPair_setSpPair_other (s : State) {p q : SpPair} (v : Word) (h : q ≠ p) :
    (s.setSpPair p v).spPair q = s.spPair q := by
  cases p <;> cases q <;> first | contradiction | rfl

theorem onlyRegsSp_setSpPair (pops : Bool) (s : State) (p : SpPair) (v : Word) (n k : Nat) :
    OnlyRegsSp s (advance n k ((pairLoadBase pops s).setSpPair p v)) := by
  cases p <;> rfl

/-- Each pair load decodes from its bytes, and is: pop if it pops, write the pair, end the Step. -/
theorem pairForm_spec {s : State} {i : Instr} {bytes : List Byte} {p : SpPair} {v : Word} {cost : Nat}
    {pops : Bool} (h : pairForm s i = some (bytes, p, v, cost, pops)) :
    Decodes bytes i ∧
      exec i s = .next (advance bytes.length cost ((pairLoadBase pops s).setSpPair p v)) := by
  cases i with
  | lxi p v =>
    cases h
    refine ⟨decodes_withWord (f := .lxi p) ?_ fun _ _ => ?_, rfl⟩ <;> cases p <;> rfl
  | lhld a =>
    cases h
    refine ⟨decodes_withWord rfl fun _ _ => rfl, ?_⟩
    rw [← joinBytes_eq_wordOf]
    rfl
  | inx p =>
    cases h
    refine ⟨decodes_one ?_ ?_, by simp [exec, execInx, plain, add16_fst, pairLoadBase_false]⟩ <;>
      cases p <;> rfl
  | dcx p =>
    cases h
    refine ⟨decodes_one ?_ ?_, by simp [exec, execDcx, plain, sub16_fst, pairLoadBase_false]⟩ <;>
      cases p <;> rfl
  | popRp p =>
    cases h
    refine ⟨decodes_one ?_ ?_, ?_⟩
    · cases p <;> rfl
    · cases p <;> rfl
    · rw [← joinBytes_eq_wordOf, pairLoadBase_true, ← setPair_eq_setSpPair]
      rfl
  | _ => cases h

/-- SP after a pair load that does not name it. -/
theorem sp_pairLoad (pops : Bool) (s : State) {p : SpPair} (v : Word) (h : p ≠ .sp) :
    ((pairLoadBase pops s).setSpPair p v).sp = if pops then s.sp + 2 else s.sp :=
  spPair_setSpPair_other (pairLoadBase pops s) v h.symm

/-- Settles O3: every pair load is one `setSpPair`, which keeps the other pairs; SPHL writes SP. -/
theorem pairLoadsWriteOnePair : Obligations.PairLoadsWriteOnePair := by
  refine ⟨fun s i bytes p v cost pops h => ?_, fun s => ⟨decodes_one rfl rfl, ?_⟩⟩
  · obtain ⟨hdecode, hexec⟩ := pairForm_spec h
    refine ⟨hdecode, _, hexec, by simp, fun q hq hsp => ?_, fun hp => ?_, by simp [pairLoadBase],
      onlyRegsSp_setSpPair pops s p v _ _, ?_⟩
    · rw [advance_spPair, spPair_setSpPair_other _ v hq, spPair_pairLoadBase pops s hsp]
    · rw [advance_sp, sp_pairLoad pops s v hp]
    · exact ended_advance _ _ (by simp [pairLoadBase]) (by simp [pairLoadBase])
        (by simp [pairLoadBase])
  · exact ⟨_, rfl, joinBytes_eq_wordOf s.h s.l, rfl, ended_advance 1 5 rfl rfl rfl⟩

/-! ### SHLD and XCHG -/

/-- SHLD is two byte writes, L and then H, and the end of the Step (R40, R97). -/
theorem exec_shld (s : State) (a : Word) :
    exec (.shld a) s =
      andThen (memWrite a s.l (start s)) fun t =>
        andThen (memWrite (a + 1) s.h t) fun u => .next (advance 3 16 u) := by
  simp [exec, execShld, faulting, memWrite16, andThen_assoc, State.hl]

/-- Settles O4: both bytes are written in turn, and a fault leaves what was written before it. -/
theorem shldStoresLowThenHigh : Obligations.ShldStoresLowThenHigh := by
  refine fun s a => ⟨decodes_withWord rfl fun _ _ => rfl, fun ha hb => ?_,
    stopsInTwoWrites (exec_shld s a)⟩
  have hnext := exec_twoWrites_next (exec_shld s a) ha hb
  exact ⟨_, hnext, wroteTwo_storeByte _ _ ha hb, rfl,
    ended_advance _ _ rfl rfl rfl⟩

/-- Settles O5: XCHG assigns the four registers from the old state. -/
theorem xchgExchangesDeAndHl : Obligations.XchgExchangesDeAndHl := by
  refine ⟨decodes_one rfl rfl, fun s => ⟨_, rfl, rfl, rfl, rfl, rfl, rfl, rfl, rfl, rfl, ?_⟩⟩
  exact ended_advance 1 4 rfl rfl rfl

end Sys2Proof.Proofs
end

section
/-! SUPPORT. The proofs of the arithmetic obligations (43_arithmetic.md): the result flags and the ALU in
plain numbers, then each instruction as one ALU call and the fields it writes. -/

namespace Sys2Proof.Proofs

open Sys2Proof.Machine Sys2Proof.Claims

/-! ### Z, S and P in numbers (R82) -/

theorem length_filter_eq_sum_map (p : Nat → Bool) (l : List Nat) :
    (l.filter p).length = (l.map fun k => (p k).toNat).sum := by
  induction l with
  | nil => rfl
  | cons k ks ih => cases h : p k <;> simp [h, ih, Nat.add_comm]

theorem popCount_eq_ones (v : Byte) : popCount v = ones v := by
  have hbit : ∀ k, (v.getLsbD k).toNat = v.toNat / 2 ^ k % 2 := Nat.toNat_testBit v.toNat
  simp only [popCount, ones, length_filter_eq_sum_map, hbit]

theorem sign_eq_decide (v : Byte) : v.getLsbD 7 = decide (128 ≤ v.toNat) := by
  rw [← BitVec.msb_eq_decide v, BitVec.msb_eq_getLsbD_last]

theorem resultFlags_setZSP (f : Flags) (v : Byte) : ResultFlags (f.setZSP v) v := by
  refine ⟨?_, sign_eq_decide v, ?_⟩
  · exact decide_eq_decide.2 (BitVec.toNat_inj (y := 0)).symm
  · rw [← popCount_eq_ones]
    rfl

theorem resultFlags_setAll (f : Flags) (o : AluResult) : ResultFlags (f.setAll o) o.r :=
  resultFlags_setZSP f o.r

theorem resultFlags_setAllButCy (f : Flags) (o : AluResult) : ResultFlags (f.setAllButCy o) o.r :=
  resultFlags_setZSP f o.r

/-! ### The carries of the adder and the subtractor (R83, R84, R86) -/

theorem aluAdd_cy_eq_decide (x y : Byte) (cin : Bool) :
    (aluAdd x y cin).cy = decide (255 < x.toNat + y.toNat + cin.toNat) := rfl

theorem aluAdd_ac (x y : Byte) (cin : Bool) :
    (aluAdd x y cin).ac = decide (15 < x.toNat % 16 + y.toNat % 16 + cin.toNat) := rfl

theorem aluSub_cy (rule : AcSubRule) (x y : Byte) (bin : Bool) :
    (aluSub rule x y bin).cy = decide (x.toNat < y.toNat + bin.toNat) := by
  simp only [aluSub, decide_eq_decide]
  omega

theorem aluSub_r_toNat (rule : AcSubRule) (x y : Byte) (bin : Bool) :
    (aluSub rule x y bin).r.toNat = (x.toNat + 256 - y.toNat - bin.toNat) % 256 := by
  have hdiff := aluSub_toNat rule x y bin
  have hbin := Bool.toNat_le bin
  have hcy := Bool.toNat_le (aluSub rule x y bin).cy
  omega

theorem aluSub_ac_halfBorrow {rule : AcSubRule} (h : rule = .halfBorrow) (x y : Byte) (bin : Bool) :
    (aluSub rule x y bin).ac = decide (x.toNat % 16 < y.toNat % 16 + bin.toNat) := by
  subst h
  rfl

/-- Adding the complement carries out of the low nibble exactly where subtracting does not borrow. -/
theorem aluSub_ac_intelComplement {rule : AcSubRule} (h : rule = .intelComplement) (x y : Byte)
    (bin : Bool) :
    (aluSub rule x y bin).ac = decide (y.toNat % 16 + bin.toNat ≤ x.toNat % 16) := by
  subst h
  have hbin := Bool.toNat_le bin
  simp only [aluSub, decide_eq_decide, BitVec.toNat_not]
  omega

/-- The carry of `add16` is the carry out of the 16-bit sum. -/
theorem add16_snd (x y : Word) : (add16 x y).2 = decide (65535 < x.toNat + y.toNat) := by
  simp only [add16, aluAdd_cy_eq_decide (hiByte x), aluAdd_cy, toNat_hiByte, toNat_loByte,
    Bool.toNat_false, decide_eq_decide]
  omega

/-! ### ADD, ADI, ADC and ACI (R101 to R104) -/

/-- Each addition decodes from its bytes, and is: add to A, then end the Step. -/
theorem addForm_spec {s : State} {i : Instr} {bytes : List Byte} {v : Byte} {cin : Bool} {cost : Nat}
    (h : addForm s i = some (bytes, v, cin, cost)) :
    Decodes bytes i ∧ exec i s = .next (advance bytes.length cost (addToA v cin (start s))) := by
  cases i with
  | addR src =>
    cases h
    refine ⟨decodes_one ?_ ?_, by simp [exec, execAddR, plain]⟩ <;> cases src <;> rfl
  | adcR src =>
    cases h
    refine ⟨decodes_one ?_ ?_, by simp [exec, execAdcR, plain]⟩ <;> cases src <;> rfl
  | addM | adcM =>
    cases h
    exact ⟨decodes_one rfl rfl, rfl⟩
  | adi v | aci v =>
    cases h
    exact ⟨decodes_two rfl rfl, rfl⟩
  | _ => cases h

/-- Settles O6: every addition is one `addToA`, whose result and flags are those of `aluAdd`. -/
theorem additionsWriteSumAndFlags : Obligations.AdditionsWriteSumAndFlags := by
  intro s i bytes v cin cost h
  obtain ⟨hdecode, hexec⟩ := addForm_spec h
  exact ⟨hdecode, _, hexec, aluAdd_toNat s.a v cin, aluAdd_cy_eq_decide s.a v cin,
    aluAdd_ac s.a v cin, resultFlags_setAll s.flags (aluAdd s.a v cin), rfl,
    ended_advance _ _ rfl rfl rfl⟩

/-! ### SUB, SUI, SBB, SBI, CMP and CPI (R105 to R108, R121, R122) -/

/-- The state after a subtraction: its flags, and its result in A unless it `keeps` A. -/
def subtracted (v : Byte) (bin keeps : Bool) (s : State) : State :=
  let o := aluSub s.cfg.acSubRule s.a v bin
  { s with a := if keeps then s.a else o.r, flags := s.flags.setAll o }

theorem subFromA_eq_subtracted (v : Byte) (bin : Bool) (s : State) :
    subFromA v bin s = subtracted v bin false s := rfl

theorem compareA_eq_subtracted (v : Byte) (s : State) :
    compareA v s = subtracted v false true s := rfl

/-- Each subtraction decodes from its bytes, and is: subtract from A or compare, then end the Step. -/
theorem subForm_spec {s : State} {i : Instr} {bytes : List Byte} {v : Byte} {bin keeps : Bool}
    {cost : Nat} (h : subForm s i = some (bytes, v, bin, keeps, cost)) :
    Decodes bytes i ∧
      exec i s = .next (advance bytes.length cost (subtracted v bin keeps (start s))) := by
  cases i with
  | subR src =>
    cases h
    refine ⟨decodes_one ?_ ?_, by simp [exec, execSubR, plain, subFromA_eq_subtracted]⟩ <;>
      cases src <;> rfl
  | sbbR src =>
    cases h
    refine ⟨decodes_one ?_ ?_, by simp [exec, execSbbR, plain, subFromA_eq_subtracted]⟩ <;>
      cases src <;> rfl
  | cmpR src =>
    cases h
    refine ⟨decodes_one ?_ ?_, by simp [exec, execCmpR, plain, compareA_eq_subtracted]⟩ <;>
      cases src <;> rfl
  | subM | sbbM | cmpM =>
    cases h
    exact ⟨decodes_one rfl rfl, rfl⟩
  | sui v | sbi v | cpi v =>
    cases h
    exact ⟨decodes_two rfl rfl, rfl⟩
  | _ => cases h

/-- Settles O7: every subtraction and compare writes the flags of one `aluSub`. -/
theorem subtractionsWriteDifferenceAndFlags : Obligations.SubtractionsWriteDifferenceAndFlags := by
  intro s i bytes v bin keeps cost h
  obtain ⟨hdecode, hexec⟩ := subForm_spec h
  exact ⟨hdecode, _, (aluSub s.cfg.acSubRule s.a v bin).r, hexec, aluSub_r_toNat _ s.a v bin, rfl,
    aluSub_cy s.cfg.acSubRule s.a v bin, fun hrule => aluSub_ac_halfBorrow hrule s.a v bin,
    fun hrule => aluSub_ac_intelComplement hrule s.a v bin, resultFlags_setAll s.flags _, rfl,
    ended_advance _ _ rfl rfl rfl⟩

/-! ### Adding and subtracting 1, in numbers -/

theorem aluAdd_one_toNat (v : Byte) : (aluAdd v 1 false).r.toNat = (v.toNat + 1) % 256 :=
  aluAdd_toNat v 1 false

theorem aluAdd_one_ac (v : Byte) : (aluAdd v 1 false).ac = decide (v.toNat % 16 = 15) := by
  simp only [BitVec.ofNat_eq_ofNat, aluAdd_ac, BitVec.toNat_ofNat, Bool.toNat_false, decide_eq_decide]
  omega

theorem aluSub_one_toNat (rule : AcSubRule) (v : Byte) :
    (aluSub rule v 1 false).r.toNat = (v.toNat + 255) % 256 :=
  aluSub_r_toNat rule v 1 false

theorem aluSub_one_ac_halfBorrow {rule : AcSubRule} (h : rule = .halfBorrow) (v : Byte) :
    (aluSub rule v 1 false).ac = decide (v.toNat % 16 = 0) := by
  simp only [BitVec.ofNat_eq_ofNat, aluSub_ac_halfBorrow h, BitVec.toNat_ofNat, Bool.toNat_false,
    decide_eq_decide]
  omega

theorem aluSub_one_ac_intelComplement {rule : AcSubRule} (h : rule = .intelComplement) (v : Byte) :
    (aluSub rule v 1 false).ac = decide (v.toNat % 16 ≠ 0) := by
  simp only [BitVec.ofNat_eq_ofNat, aluSub_ac_intelComplement h, BitVec.toNat_ofNat,
    Bool.toNat_false, decide_eq_decide]
  omega

/-! ### INR and DCR of a register (R109, R110) -/

/-- The end of a Step that writes an ALU result to a register, and every flag but CY. -/
def regKeepCy (dst : Reg) (o : AluResult) (s : State) : State :=
  advance 1 5 { (start s).setReg dst o.r with flags := s.flags.setAllButCy o }

theorem exec_inrR (s : State) (dst : Reg) :
    exec (.inrR dst) s = .next (regKeepCy dst (aluAdd (s.reg dst) 1 false) s) := by
  simp [exec, execInrR, plain, incremented, regKeepCy]

theorem exec_dcrR (s : State) (dst : Reg) :
    exec (.dcrR dst) s = .next (regKeepCy dst (aluSub s.cfg.acSubRule (s.reg dst) 1 false) s) := by
  simp [exec, execDcrR, plain, decremented, regKeepCy]

/-- Replacing the flags of a state leaves its registers alone. -/
theorem reg_withFlags (s : State) (f : Flags) (q : Reg) : { s with flags := f }.reg q = s.reg q := by
  cases q <;> rfl

theorem reg_regKeepCy_same (s : State) (dst : Reg) (o : AluResult) :
    (regKeepCy dst o s).reg dst = o.r := by
  rw [regKeepCy, advance_reg, reg_withFlags, reg_setReg_same]

theorem reg_regKeepCy_other (s : State) {dst q : Reg} (o : AluResult) (h : q ≠ dst) :
    (regKeepCy dst o s).reg q = s.reg q := by
  rw [regKeepCy, advance_reg, reg_withFlags, reg_setReg_other _ _ h, start_reg]

theorem resultFlags_regKeepCy (s : State) (dst : Reg) (o : AluResult) :
    ResultFlags (regKeepCy dst o s).flags ((regKeepCy dst o s).reg dst) := by
  rw [reg_regKeepCy_same]
  exact resultFlags_setAllButCy s.flags o

theorem onlyRegsFlags_regKeepCy (s : State) (dst : Reg) (o : AluResult) :
    OnlyRegsFlags s (regKeepCy dst o s) := by
  cases dst <;> rfl

theorem ended_regKeepCy (s : State) (dst : Reg) (o : AluResult) :
    Ended s (regKeepCy dst o s) 1 5 :=
  ended_advance 1 5 (by simp) (by simp) (by simp)

/-! ### INR and DCR of memory (R109, R110) -/

/-- An ALU result stored at HL, then every flag but CY, then the end of the Step. -/
def storeMKeepCy (o : AluResult) (s : State) : Result :=
  andThen (memWrite s.hl o.r (start s)) fun t =>
    .next (advance 1 10 { t with flags := s.flags.setAllButCy o })

theorem exec_inrM (s : State) : exec .inrM s = storeMKeepCy (aluAdd (memRead s s.hl) 1 false) s := by
  simp [exec, execInrM, faulting, incremented, andThen_assoc, storeMKeepCy, State.m]

theorem exec_dcrM (s : State) :
    exec .dcrM s = storeMKeepCy (aluSub s.cfg.acSubRule (memRead s s.hl) 1 false) s := by
  simp [exec, execDcrM, faulting, decremented, andThen_assoc, storeMKeepCy, State.m]

theorem exec_storeMKeepCy_next {i : Instr} {s : State} {o : AluResult}
    (hexec : exec i s = storeMKeepCy o s) (ha : writeFault s.cfg s.hl = none) :
    exec i s = .next (advance 1 10
      { storeByte s.hl o.r (start s) with flags := s.flags.setAllButCy o }) := by
  rw [storeMKeepCy] at hexec
  exact exec_oneWrite_next hexec ha

/-! ### The increments and the decrements -/

/-- Settles O8: an increment writes the result of adding 1, and every flag of it but CY. -/
theorem incrementsKeepCarry : Obligations.IncrementsKeepCarry := by
  refine ⟨fun s dst => ⟨?_, ?_⟩, fun s => ⟨decodes_one rfl rfl, fun ha => ?_, fun cause ha => ?_⟩⟩
  · cases dst <;> exact decodes_one rfl rfl
  · exact ⟨_, exec_inrR s dst, by rw [reg_regKeepCy_same, aluAdd_one_toNat],
      fun q hq => reg_regKeepCy_other s _ hq, rfl, aluAdd_one_ac (s.reg dst),
      resultFlags_regKeepCy s dst _, onlyRegsFlags_regKeepCy s dst _, ended_regKeepCy s dst _⟩
  · exact ⟨_, _, exec_storeMKeepCy_next (exec_inrM s) ha, aluAdd_one_toNat _, wrote_storeByte _ ha,
      rfl, aluAdd_one_ac (memRead s s.hl), resultFlags_setAllButCy s.flags _, rfl,
      ended_advance 1 10 rfl rfl rfl⟩
  · exact stopsWith_of_firstWrite (exec_inrM s) ha

/-- Settles O9: a decrement writes the result of subtracting 1, and every flag of it but CY. -/
theorem decrementsKeepCarry : Obligations.DecrementsKeepCarry := by
  refine ⟨fun s dst => ⟨?_, ?_⟩, fun s => ⟨decodes_one rfl rfl, fun ha => ?_, fun cause ha => ?_⟩⟩
  · cases dst <;> exact decodes_one rfl rfl
  · exact ⟨_, exec_dcrR s dst, by rw [reg_regKeepCy_same, aluSub_one_toNat],
      fun q hq => reg_regKeepCy_other s _ hq, rfl, fun h => aluSub_one_ac_halfBorrow h (s.reg dst),
      fun h => aluSub_one_ac_intelComplement h (s.reg dst), resultFlags_regKeepCy s dst _,
      onlyRegsFlags_regKeepCy s dst _, ended_regKeepCy s dst _⟩
  · exact ⟨_, _, exec_storeMKeepCy_next (exec_dcrM s) ha, aluSub_one_toNat _ _,
      wrote_storeByte _ ha, rfl, fun h => aluSub_one_ac_halfBorrow h (memRead s s.hl),
      fun h => aluSub_one_ac_intelComplement h (memRead s s.hl),
      resultFlags_setAllButCy s.flags _, rfl, ended_advance 1 10 rfl rfl rfl⟩
  · exact stopsWith_of_firstWrite (exec_dcrM s) ha

/-! ### DAD (R113) -/

/-- DAD writes the 16-bit sum to HL and its carry to CY. -/
theorem exec_dad (s : State) (p : SpPair) :
    exec (.dad p) s = .next (advance 1 10
      { (start s).setHl (s.hl + s.spPair p) with
        flags := { s.flags with cy := decide (65535 < s.hl.toNat + (s.spPair p).toNat) } }) := by
  simp [exec, execDad, plain, add16_fst, add16_snd]

/-- Settles O10: HL and CY are the two parts of `add16`. -/
theorem dadAddsPairToHl : Obligations.DadAddsPairToHl := by
  refine fun s p => ⟨?_, _, exec_dad s p, ?_, rfl, rfl, rfl, rfl, rfl, rfl, rfl,
    ended_advance 1 10 rfl rfl rfl⟩
  · cases p <;> exact decodes_one rfl rfl
  · exact (congrArg BitVec.toNat (joinBytes_hi_lo _)).trans (BitVec.toNat_add _ _)

end Sys2Proof.Proofs
end

section
/-! SUPPORT. The proofs of the logical, rotate and flag obligations (44_logical.md): each logical operation
as one `logicToA`, each rotate as one `setACarry` of a shifted A, bit by bit. -/

namespace Sys2Proof.Proofs

open Sys2Proof.Machine Sys2Proof.Claims

/-! ### ANA, ANI, XRA, XRI, ORA and ORI (R115 to R120) -/

theorem resultFlags_setLogic (f : Flags) (v : Byte) : ResultFlags (f.setLogic v) v :=
  resultFlags_setZSP f v

/-- Each logical operation decodes from its bytes, and is: write the result to A, then end the Step. -/
theorem logicForm_spec {s : State} {i : Instr} {bytes : List Byte} {r : Byte} {cost : Nat}
    (h : logicForm s i = some (bytes, r, cost)) :
    Decodes bytes i ∧ exec i s = .next (advance bytes.length cost (logicToA r (start s))) := by
  cases i with
  | anaR src | xraR src | oraR src =>
    cases h
    cases src <;> exact ⟨decodes_one rfl rfl, rfl⟩
  | anaM | xraM | oraM =>
    cases h
    exact ⟨decodes_one rfl rfl, rfl⟩
  | ani v | xri v | ori v =>
    cases h
    exact ⟨decodes_two rfl rfl, rfl⟩
  | _ => cases h

/-- Settles O13: every logical operation is one `logicToA`, whose flags are those of `setLogic`. -/
theorem logicalOperationsClearCarries : Obligations.LogicalOperationsClearCarries := by
  intro s i bytes r cost h
  obtain ⟨hdecode, hexec⟩ := logicForm_spec h
  exact ⟨hdecode, _, hexec, rfl, rfl, rfl, resultFlags_setLogic s.flags r, rfl,
    ended_advance _ _ rfl rfl rfl⟩

/-! ### A byte shifted by one place, with a bit put in at the free end -/

theorem getLsbD_bitByte (b : Bool) (k : Nat) : (bitByte b).getLsbD k = (b && decide (k = 0)) := by
  cases b <;> simp [bitByte]

/-- Left: bit 0 is the new one, and every other bit is the old bit below it. -/
theorem getLsbD_shiftLeft_or_bitByte (x : Byte) (b : Bool) {k : Nat} (hk : k < 8) :
    (x <<< 1 ||| bitByte b).getLsbD k = if k = 0 then b else x.getLsbD (k - 1) := by
  simp only [BitVec.getLsbD_or, BitVec.getLsbD_shiftLeft, getLsbD_bitByte, hk]
  by_cases h0 : k = 0
  · simp [h0]
  · have h1 : ¬ k < 1 := by omega
    simp [h0, h1]

/-- Right: bit 7 is the new one, and every other bit is the old bit above it. -/
theorem getLsbD_bitByte_or_shiftRight (x : Byte) (b : Bool) {k : Nat} (hk : k < 8) :
    (bitByte b <<< 7 ||| x >>> 1).getLsbD k = if k = 7 then b else x.getLsbD (k + 1) := by
  simp only [BitVec.getLsbD_or, BitVec.getLsbD_shiftLeft, BitVec.getLsbD_ushiftRight,
    getLsbD_bitByte, hk]
  by_cases h7 : k = 7
  · simp [h7]
  · have hlt : k < 7 := by omega
    simp [h7, hlt, Nat.add_comm 1 k]

/-! ### RLC, RRC, RAL and RAR (R123 to R126) -/

/-- Each rotate decodes from its byte, and is: write the rotated byte to A and the bit rotated out to CY,
then end the Step. -/
theorem rotateForm_spec {s : State} {i : Instr} {bytes : List Byte} {bit : Nat → Bool} {cy : Bool}
    (h : rotateForm s i = some (bytes, bit, cy)) :
    Decodes bytes i ∧ ∃ r, exec i s = .next (advance 1 4 (setACarry r cy (start s))) ∧
      ∀ k, k < 8 → r.getLsbD k = bit k := by
  cases i with
  | rlc =>
    cases h
    refine ⟨decodes_one rfl rfl, _, rfl, fun k hk => ?_⟩
    rw [start_a, getLsbD_shiftLeft_or_bitByte s.a _ hk]
    split
    next h0 => rw [h0]
    next h0 => congr 1; omega
  | rrc =>
    cases h
    refine ⟨decodes_one rfl rfl, _, rfl, fun k hk => ?_⟩
    rw [start_a, getLsbD_bitByte_or_shiftRight s.a _ hk]
    split
    next h7 => rw [h7]
    next h7 => congr 1; omega
  | ral =>
    cases h
    exact ⟨decodes_one rfl rfl, _, rfl, fun k hk => getLsbD_shiftLeft_or_bitByte s.a s.flags.cy hk⟩
  | rar =>
    cases h
    exact ⟨decodes_one rfl rfl, _, rfl, fun k hk => getLsbD_bitByte_or_shiftRight s.a s.flags.cy hk⟩
  | _ => cases h

/-- Settles O14: every rotate is one `setACarry`, whose byte is known bit by bit. -/
theorem rotatesMoveEachBit : Obligations.RotatesMoveEachBit := by
  intro s i bytes bit cy h
  obtain ⟨hdecode, r, hexec, hbits⟩ := rotateForm_spec h
  exact ⟨hdecode, _, hexec, hbits, rfl, rfl, ended_advance 1 4 rfl rfl rfl⟩

/-! ### CMA, STC and CMC (R127 to R129) -/

theorem toNat_xor_ff (v : Byte) : (v ^^^ 0xFF).toNat = 255 - v.toNat := by
  calc (v ^^^ 0xFF).toNat = (~~~v).toNat := congrArg BitVec.toNat (BitVec.xor_allOnes (x := v))
    _ = 255 - v.toNat := BitVec.toNat_not

/-- Settles O16: CMA writes the complement to A; STC and CMC write CY. -/
theorem complementAndCarryInstructions : Obligations.ComplementAndCarryInstructions := by
  refine ⟨⟨decodes_one rfl rfl, fun s => ?_⟩, ⟨decodes_one rfl rfl, fun s => ?_⟩,
    decodes_one rfl rfl, fun s => ?_⟩
  · exact ⟨_, rfl, toNat_xor_ff s.a, rfl, rfl, ended_advance 1 4 rfl rfl rfl⟩
  · exact ⟨_, rfl, rfl, rfl, rfl, ended_advance 1 4 rfl rfl rfl⟩
  · exact ⟨_, rfl, rfl, rfl, rfl, ended_advance 1 4 rfl rfl rfl⟩

end Sys2Proof.Proofs
end

section
/-! SUPPORT. The proofs of the jump and return obligations (45_branch.md): each instruction as one `jump`,
after a pop for a return, or as an `advance` where its condition fails. -/

namespace Sys2Proof.Proofs

open Sys2Proof.Machine Sys2Proof.Claims

/-! ### The conditions (R59) and the end of a Step that transfers control -/

theorem holds_iff_condTrue (f : Flags) (cc : Cond) : f.holds cc = true ↔ condTrue f cc := by
  cases cc <;> simp [Flags.holds, condTrue]

/-- `jump` ends the Step at its target, after a body that left the cycles and `halted` alone
(R76 to R79). -/
theorem jumped_jump {s u : State} (n k : Nat) (target : Word) (hcycles : u.cycles = s.cycles)
    (hhalted : u.halted = false) : Jumped s (jump n k target u) target n k :=
  ⟨rfl, by simp [hcycles], by simp [hhalted], rfl⟩

/-! ### JMP, Jcc and PCHL (R131 to R133) -/

theorem exec_jcc_taken {s : State} {cc : Cond} (a : Word) (h : condTrue s.flags cc) :
    exec (.jcc cc a) s = .next (jump 3 10 a (start s)) :=
  if_pos ((holds_iff_condTrue s.flags cc).2 h)

theorem exec_jcc_untaken {s : State} {cc : Cond} (a : Word) (h : ¬condTrue s.flags cc) :
    exec (.jcc cc a) s = .next (advance 3 10 (start s)) :=
  if_neg (mt (holds_iff_condTrue s.flags cc).1 h)

theorem decodes_jcc (cc : Cond) (a : Word) :
    Decodes (withWord (194 + 8 * condNum cc) a) (.jcc cc a) := by
  cases cc <;> exact decodes_withWord rfl fun _ _ => rfl

theorem exec_pchl (s : State) : exec .pchl s = .next (jump 1 5 (wordOf s.h s.l) (start s)) := by
  rw [← joinBytes_eq_wordOf]
  rfl

/-- Settles O17: every jump is one `jump` of the started state, and an untaken Jcc one `advance` of it. -/
theorem jumpsWriteOnlyPc : Obligations.JumpsWriteOnlyPc := by
  refine ⟨fun s a => ?jmp, fun s cc a => ⟨decodes_jcc cc a, ?jcc⟩, fun s => ?pchl⟩
  case jmp =>
    exact ⟨decodes_withWord rfl fun _ _ => rfl, _, rfl, rfl, jumped_jump 3 10 a rfl rfl⟩
  case jcc =>
    by_cases h : condTrue s.flags cc
    · exact ⟨_, exec_jcc_taken a h, rfl, fun _ => jumped_jump 3 10 a rfl rfl, fun hn => absurd h hn⟩
    · exact ⟨_, exec_jcc_untaken a h, rfl, fun ht => absurd ht h,
        fun _ => ended_advance 3 10 rfl rfl rfl⟩
  case pchl =>
    exact ⟨decodes_one rfl rfl, _, exec_pchl s, rfl, jumped_jump 1 5 _ rfl rfl⟩

/-! ### RET and Rcc (R136, R137) -/

/-- A return jumps to the two bytes at SP, the low one first, from the state past them. -/
theorem returnFrom_eq_jump (cost : Nat) (s : State) :
    returnFrom cost s =
      .next (jump 1 cost (wordOf (memRead s (s.sp + 1)) (memRead s s.sp)) (popped (start s))) := by
  rw [← joinBytes_eq_wordOf]
  rfl

theorem exec_rcc_taken {s : State} {cc : Cond} (h : condTrue s.flags cc) :
    exec (.rcc cc) s = returnFrom 11 s :=
  if_pos ((holds_iff_condTrue s.flags cc).2 h)

theorem exec_rcc_untaken {s : State} {cc : Cond} (h : ¬condTrue s.flags cc) :
    exec (.rcc cc) s = .next (advance 1 5 (start s)) :=
  if_neg (mt (holds_iff_condTrue s.flags cc).1 h)

theorem decodes_rcc (cc : Cond) : Decodes [byteOf (192 + 8 * condNum cc)] (.rcc cc) := by
  cases cc <;> exact decodes_one rfl rfl

/-- Settles O19: RET and a taken Rcc are one `returnFrom`, and an untaken Rcc is one `advance`. -/
theorem returnsPopPc : Obligations.ReturnsPopPc := by
  refine ⟨fun s => ?ret, fun s cc => ⟨decodes_rcc cc, ?rcc⟩⟩
  case ret =>
    exact ⟨decodes_one rfl rfl, _, returnFrom_eq_jump 10 s, rfl, rfl, jumped_jump 1 10 _ rfl rfl⟩
  case rcc =>
    by_cases h : condTrue s.flags cc
    · exact ⟨_, (exec_rcc_taken h).trans (returnFrom_eq_jump 11 s), rfl,
        fun _ => ⟨rfl, jumped_jump 1 11 _ rfl rfl⟩, fun hn => absurd h hn⟩
    · exact ⟨_, exec_rcc_untaken h, rfl, fun ht => absurd ht h,
        fun _ => ⟨rfl, ended_advance 1 5 rfl rfl rfl⟩⟩

end Sys2Proof.Proofs
end

section
/-! SUPPORT. The proofs of the stack obligations (46_stack_io_control.md): each push and XTHL as two byte
writes and the rest of the Step, and the packed flag byte in plain numbers. -/

namespace Sys2Proof.Proofs

open Sys2Proof.Machine Sys2Proof.Claims

/-! ### PUSH rp and PUSH PSW (R139, R140) -/

/-- A push is two byte writes, the high byte first, and then the write of SP (R42). -/
theorem andThen_push16 {α : Type} (v : Word) (s : State) (f : State → ResultOf α) :
    andThen (push16 v s) f =
      andThen (memWrite (s.sp - 1) (hiByte v) s) fun t =>
        andThen (memWrite (s.sp - 2) (loByte v) t) fun u => f { u with sp := s.sp - 2 } := by
  simp only [push16, andThen_assoc, andThen_next]

/-- The packed flag byte is the sum of the weights of its set bits, bit 1 always among them (R19). -/
theorem pack_eq_byteOf (f : Flags) :
    f.pack = byteOf (128 * f.s.toNat + 64 * f.z.toNat + 16 * f.ac.toNat + 4 * f.p.toNat + 2
      + f.cy.toNat) := by
  obtain ⟨z, s, p, cy, ac⟩ := f
  revert z s p cy ac
  decide

/-- Each push decodes from its byte, and is: push the two bytes, then end the Step. -/
theorem pushForm_spec {s : State} {i : Instr} {bytes : List Byte} {hi lo : Byte}
    (h : pushForm s i = some (bytes, hi, lo)) :
    Decodes bytes i ∧ exec i s = faulting 1 11 (push16 (joinBytes hi lo)) s := by
  cases i with
  | pushRp p => cases p <;> cases h <;> exact ⟨decodes_one rfl rfl, rfl⟩
  | pushPsw =>
    cases h
    refine ⟨decodes_one rfl rfl, ?_⟩
    rw [← pack_eq_byteOf]
    rfl
  | _ => cases h

/-- Settles O22: a push is two byte writes, and SP is written after both. -/
theorem pushStoresHighThenLow : Obligations.PushStoresHighThenLow := by
  intro s i bytes hi lo h
  obtain ⟨hdecode, hpush⟩ := pushForm_spec h
  have hexec := hpush.trans (andThen_push16 (joinBytes hi lo) (start s) _)
  rw [hiByte_join, loByte_join] at hexec
  refine ⟨hdecode, fun ha hb => ?_, stopsInTwoWrites hexec⟩
  have hnext := exec_twoWrites_next hexec ha hb
  exact ⟨_, hnext, wroteTwo_storeByte hi lo ha hb, rfl, rfl, ended_advance 1 11 rfl rfl rfl⟩

/-! ### POP PSW (R142) -/

/-- A bit of a byte, read off its number. -/
theorem getLsbD_eq_decide (v : Byte) (k : Nat) :
    v.getLsbD k = decide (v.toNat / 2 ^ k % 2 = 1) :=
  Nat.testBit_eq_decide_div_mod_eq

/-- POP PSW takes A from the high byte popped and the flags from the low one. -/
theorem exec_popPsw (s : State) :
    exec .popPsw s =
      .next (advance 1 10 { popped (start s) with
        a := memRead s (s.sp + 1), flags := Flags.unpack (memRead s s.sp) }) := by
  simp [exec, execPopPsw, plain, popValue]

/-- Settles O23: A is the high byte popped, and each flag is its bit of the low one. -/
theorem popPswLoadsAAndFlags : Obligations.PopPswLoadsAAndFlags := by
  intro s
  have hbit := getLsbD_eq_decide (memRead s s.sp)
  have hcy := hbit 0
  rw [pow_zero, Nat.div_one] at hcy
  exact ⟨decodes_one rfl rfl, _, exec_popPsw s, rfl, hcy, hbit 2, hbit 4, hbit 6, hbit 7, rfl,
    ended_advance 1 10 rfl rfl rfl, rfl⟩

/-! ### XTHL (R143) -/

/-- XTHL is two byte writes, L and then H, and HL from the bytes read before them. -/
theorem exec_xthl (s : State) :
    exec .xthl s =
      andThen (memWrite s.sp s.l (start s)) fun t =>
        andThen (memWrite (s.sp + 1) s.h t) fun u =>
          .next (advance 1 18 { u with l := memRead s s.sp, h := memRead s (s.sp + 1) }) := by
  simp [exec, execXthl, faulting, andThen_assoc]

/-- Settles O24: both bytes are written before HL, and HL is loaded with the bytes read before. -/
theorem xthlExchangesTopOfStack : Obligations.XthlExchangesTopOfStack := by
  refine fun s => ⟨decodes_one rfl rfl, fun ha hb => ?_, stopsInTwoWrites (exec_xthl s)⟩
  have hnext := exec_twoWrites_next (exec_xthl s) ha hb
  exact ⟨_, hnext, wroteTwo_storeByte s.l s.h ha hb, rfl, rfl, ended_advance 1 18 rfl rfl rfl, rfl⟩

end Sys2Proof.Proofs
end

section
/-! SUPPORT. The proofs of the host-call obligations (60_exceptions.md): which pin names are known, and what
SetPin and GetPin answer to the others. -/

namespace Sys2Proof.Proofs

open Sys2Proof.Machine

/-! ### Pin names (R22, R163) -/

/-- The unknown names are those outside the three of R22. -/
theorem pinOfName_eq_none_iff (name : String) :
    pinOfName name = none ↔ name ≠ "INTE" ∧ name ≠ "HOLD" ∧ name ≠ "WAIT" := by
  unfold pinOfName
  split_ifs with hinte hhold hwait
  · simp [hinte]
  · simp [hhold]
  · simp [hwait]
  · simp [hinte, hhold, hwait]

theorem setPin_of_unknown {name : String} (h : pinOfName name = none) (b : Bool) (s : State) :
    setPin name b s = .refused (.invalidPinName name) := by
  rw [setPin, h]

theorem getPin_of_unknown {name : String} (h : pinOfName name = none) (s : State) :
    getPin name s = .refused (.invalidPinName name) := by
  rw [getPin, h]

/-- Settles O48: a name outside the three of R22 names no pin, so both calls refuse it. -/
theorem unknownPinNamesAreRejected : Obligations.UnknownPinNamesAreRejected := by
  intro s name b hinte hhold hwait
  have hunknown := (pinOfName_eq_none_iff name).mpr ⟨hinte, hhold, hwait⟩
  exact ⟨setPin_of_unknown hunknown b s, getPin_of_unknown hunknown s⟩

end Sys2Proof.Proofs
end

section
/-! SUPPORT. The proofs of the encoding obligations (30_encoding.md): the two round trips between
instructions and bytes, and the length of an instruction. -/

namespace Sys2Proof.Proofs

open Sys2Proof.Machine Sys2Proof.Claims

/-! ### Decoding what the encoder writes (R60, R61) -/

theorem decodes_encodeWordOperand {op : Byte} {v : Word} {f : Word → Instr} (hlen : opLength op = 3)
    (hop : ∀ b1 b2, decodeOp op b1 b2 = f (joinBytes b2 b1)) :
    Decodes (encodeWordOperand op v) (f v) := by
  intro rest
  simp [encodeWordOperand, decode, hlen, hop]

theorem decodes_illegal : ∀ op ∈ illegalOpcodes, Decodes [op] (.illegal op) := by
  have htable : ∀ op ∈ illegalOpcodes, opLength op = 1 ∧ decodeOp op 0 0 = .illegal op := by decide
  intro op hop
  exact decodes_one (htable op hop).1 (htable op hop).2

theorem decodes_rst (n : BitVec 3) : Decodes (encode (.rst n)) (.rst n) := by
  have htable : ∀ k : BitVec 3, opLength (0xC7 ||| k.zeroExtend 8 <<< 3) = 1 ∧
      decodeOp (0xC7 ||| k.zeroExtend 8 <<< 3) 0 0 = .rst k := by decide
  exact decodes_one (htable n).1 (htable n).2

/-- The bytes the encoder writes decode to the instruction, by the form of its operands. -/
theorem decodes_encode {i : Instr} (h : i.wellFormed = true) : Decodes (encode i) i := by
  cases i with
  | movRR dst src => cases dst <;> cases src <;> exact decodes_one rfl rfl
  | movRM r | movMR r | addR r | adcR r | subR r | sbbR r | anaR r | xraR r | oraR r | cmpR r
  | inrR r | dcrR r => cases r <;> exact decodes_one rfl rfl
  | mviR dst v => cases dst <;> exact decodes_two rfl rfl
  | mviM v | adi v | aci v | sui v | sbi v | ani v | xri v | ori v | cpi v | inp v | outp v =>
    exact decodes_two rfl rfl
  | lxi p v => cases p <;> exact decodes_encodeWordOperand rfl fun _ _ => rfl
  | lda a | sta a | lhld a | shld a | jmp a | call a =>
    exact decodes_encodeWordOperand rfl fun _ _ => rfl
  | jcc cc a | ccc cc a => cases cc <;> exact decodes_encodeWordOperand rfl fun _ _ => rfl
  | rcc cc => cases cc <;> exact decodes_one rfl rfl
  | ldax p | stax p | inx p | dcx p | dad p | pushRp p | popRp p =>
    cases p <;> exact decodes_one rfl rfl
  | rst n => exact decodes_rst n
  | illegal op => exact decodes_illegal op (List.contains_iff_mem.1 h)
  | xchg | addM | adcM | subM | sbbM | anaM | xraM | oraM | cmpM | inrM | dcrM | daa | rlc | rrc
  | ral | rar | cma | stc | cmc | ret | pchl | pushPsw | popPsw | xthl | sphl | ei | di | hlt
  | nop => exact decodes_one rfl rfl

/-- Settles O31: each encoding decodes to its instruction, whatever bytes follow. -/
theorem decodeOfEncodeIsTheInstruction : Obligations.DecodeOfEncodeIsTheInstruction :=
  fun _ rest h => decodes_encode h rest

/-! ### The operand bytes of an instruction (R61) -/

/-- The instruction with the operand bytes `b1` and `b2` in the place of its own. -/
def withOperands (b1 b2 : Byte) : Instr → Instr
  | .mviR dst _ => .mviR dst b1
  | .mviM _ => .mviM b1
  | .adi _ => .adi b1
  | .aci _ => .aci b1
  | .sui _ => .sui b1
  | .sbi _ => .sbi b1
  | .ani _ => .ani b1
  | .xri _ => .xri b1
  | .ori _ => .ori b1
  | .cpi _ => .cpi b1
  | .inp _ => .inp b1
  | .outp _ => .outp b1
  | .lxi p _ => .lxi p (joinBytes b2 b1)
  | .lda _ => .lda (joinBytes b2 b1)
  | .sta _ => .sta (joinBytes b2 b1)
  | .lhld _ => .lhld (joinBytes b2 b1)
  | .shld _ => .shld (joinBytes b2 b1)
  | .jmp _ => .jmp (joinBytes b2 b1)
  | .jcc cc _ => .jcc cc (joinBytes b2 b1)
  | .call _ => .call (joinBytes b2 b1)
  | .ccc cc _ => .ccc cc (joinBytes b2 b1)
  | i => i

@[simp] theorem instrLength_withOperands (b1 b2 : Byte) (i : Instr) :
    instrLength (withOperands b1 b2 i) = instrLength i := by
  cases i <;> rfl

@[simp] theorem wellFormed_withOperands (b1 b2 : Byte) (i : Instr) :
    (withOperands b1 b2 i).wellFormed = i.wellFormed := by
  cases i <;> rfl

/-- The operand bytes stand behind the opcode, as many of them as the length leaves room for. -/
theorem encode_withOperands (b1 b2 : Byte) (i : Instr) :
    encode (withOperands b1 b2 i) = (encode i).headD 0 :: [b1, b2].take (instrLength i - 1) := by
  cases i <;> simp [withOperands, encode, encodeWordOperand, instrLength]

/-! ### The decode tree as a table of 256 opcodes (R67) -/

/-- The opcode alone selects the instruction; the operand bytes only fill it in. -/
theorem decodeOp_eq_withOperands (op b1 b2 : Byte) :
    decodeOp op b1 b2 = withOperands b1 b2 (decodeOp op 0 0) := by
  unfold decodeOp decodeGroup00 decodeGroup01 decodeGroup10 decodeGroup11
  repeat' split
  all_goals rfl

/-- The table, one row per opcode: its length, that it is well-formed, and the opcode encoded again. -/
theorem decodeOp_table : ∀ op : Byte, opLength op = instrLength (decodeOp op 0 0) ∧
    (decodeOp op 0 0).wellFormed = true ∧ (encode (decodeOp op 0 0)).headD 0 = op := by
  decide

/-- Settles O33: the length is that of the row of the opcode, and no operand byte changes it. -/
theorem lengthIsDeterminedByOpcode : Obligations.LengthIsDeterminedByOpcode := by
  intro op b1 b2
  rw [decodeOp_eq_withOperands, instrLength_withOperands]
  exact (decodeOp_table op).1

theorem wellFormed_decodeOp (op b1 b2 : Byte) : (decodeOp op b1 b2).wellFormed = true := by
  rw [decodeOp_eq_withOperands, wellFormed_withOperands]
  exact (decodeOp_table op).2.1

theorem encode_decodeOp (op b1 b2 : Byte) :
    encode (decodeOp op b1 b2) = op :: [b1, b2].take (opLength op - 1) := by
  obtain ⟨hlen, -, hop⟩ := decodeOp_table op
  rw [decodeOp_eq_withOperands, encode_withOperands, hop, hlen]

/-- A list that decodes is an opcode, as many operand bytes as its length says, and the rest. -/
theorem decode_eq_ok {bytes rest : List Byte} {i : Instr} (h : decode bytes = .ok (i, rest)) :
    ∃ op b1 b2, i = decodeOp op b1 b2 ∧ bytes = op :: [b1, b2].take (opLength op - 1) ++ rest := by
  unfold decode at h
  split at h
  case h_1 => cases h
  case h_2 op tail =>
    split at h
    case h_1 hlen => cases h; exact ⟨op, 0, 0, rfl, by simp [hlen]⟩
    case h_2 b1 _ hlen => cases h; exact ⟨op, b1, 0, rfl, by simp [hlen]⟩
    case h_3 b1 b2 _ hlen => cases h; exact ⟨op, b1, b2, rfl, by simp [hlen]⟩
    case h_4 => cases h

/-- Settles O32: every row of the opcode table encodes to its opcode and the operand bytes. -/
theorem encodeOfDecodeIsTheBytes : Obligations.EncodeOfDecodeIsTheBytes := by
  intro bytes i rest h
  obtain ⟨op, b1, b2, rfl, rfl⟩ := decode_eq_ok h
  exact ⟨wellFormed_decodeOp op b1 b2, congrArg (· ++ rest) (encode_decodeOp op b1 b2)⟩

/-- Settles O30: each word is decoded by computation. -/
theorem sampleWordsDecode : Obligations.SampleWordsDecode := by
  refine ⟨rfl, rfl, rfl, rfl, rfl, rfl, rfl, rfl, rfl, rfl⟩

end Sys2Proof.Proofs
end

section
/-! SUPPORT. The proofs of the call, return and interrupt obligations (45_branch.md, 60_exceptions.md
sections 2 and 5): each call and the interrupt entry as one push and a jump, and the pop that undoes it. -/

namespace Sys2Proof.Proofs

open Sys2Proof.Machine Sys2Proof.Claims

/-- The result of a Step that halts (R79, D7). -/
theorem toInt_haltSentinel : haltSentinel.toInt = -1 := by decide

/-! ### CALL, Ccc and RST (R134, R135, R138, R170, R171) -/

theorem exec_call_print {s : State} (h : s.diagMode = true) :
    exec (.call 0x0005) s = .next (advance 3 17 (diagPrint (start s))) :=
  if_pos ⟨h, rfl⟩

theorem exec_call_exit {s : State} (h : s.diagMode = true) :
    exec (.call 0x0000) s = .next (halt 17 s) := by
  simp [exec, execCall, h]

theorem exec_call_goes {s : State} {a : Word} (h : s.diagMode = false ∨ a ≠ 0x0005 ∧ a ≠ 0x0000) :
    exec (.call a) s = callTo 3 17 a s := by
  have hprint : ¬(s.diagMode = true ∧ a = 0x0005) := by
    obtain hoff | ⟨h5, -⟩ := h <;> simp only [*, false_and, and_false, not_false_eq_true, reduceCtorEq]
  have hexit : ¬(s.diagMode = true ∧ a = 0x0000) := by
    obtain hoff | ⟨-, h0⟩ := h <;> simp only [*, false_and, and_false, not_false_eq_true, reduceCtorEq]
  exact (if_neg hprint).trans (if_neg hexit)

/-- A CALL goes on to its target, prints, or is the diagnostic exit (R134, R170, R171). -/
theorem call_cases (s : State) (a : Word) :
    (s.diagMode = false ∨ a ≠ 0x0005 ∧ a ≠ 0x0000) ∨ (s.diagMode = true ∧ a = 0x0005) ∨
      (s.diagMode = true ∧ a = 0x0000) := by
  cases s.diagMode <;> tauto

theorem exec_ccc_taken {s : State} {cc : Cond} (a : Word) (h : condTrue s.flags cc) :
    exec (.ccc cc a) s = callTo 3 17 a s :=
  if_pos ((holds_iff_condTrue s.flags cc).2 h)

theorem exec_ccc_untaken {s : State} {cc : Cond} (a : Word) (h : ¬condTrue s.flags cc) :
    exec (.ccc cc a) s = .next (advance 3 11 (start s)) :=
  if_neg (mt (holds_iff_condTrue s.flags cc).1 h)

/-- The vector of `n` is eight times its number (R61). -/
theorem vector_eq_ofNat : ∀ n : BitVec 3, vector n = BitVec.ofNat 16 (8 * n.toNat) := by
  decide

/-- Each call decodes from its bytes and, where it calls, pushes the next address and jumps. -/
theorem callForm_spec {s : State} {i : Instr} {bytes : List Byte} {calls : Prop} {target : Word}
    {cost : Nat} (h : callForm s i = some (bytes, calls, target, cost)) :
    Decodes bytes i ∧ (calls → exec i s = callTo bytes.length cost target s) := by
  cases i with
  | call a =>
    cases h
    exact ⟨decodes_withWord rfl fun _ _ => rfl, exec_call_goes⟩
  | ccc cc a =>
    cases h
    refine ⟨?_, exec_ccc_taken target⟩
    cases cc <;> exact decodes_withWord rfl fun _ _ => rfl
  | rst n =>
    cases h
    have htable : ∀ k : BitVec 3, opLength (byteOf (199 + 8 * k.toNat)) = 1 ∧
        decodeOp (byteOf (199 + 8 * k.toNat)) 0 0 = .rst k := by decide
    refine ⟨decodes_one (htable n).1 (htable n).2, fun _ => ?_⟩
    rw [← vector_eq_ofNat]
    rfl
  | _ => cases h

/-- A call is two byte writes, the high byte first, then SP, then the jump (R42, R130). -/
theorem callTo_eq_writes (n k : Nat) (target : Word) (s : State) :
    callTo n k target s =
      andThen (memWrite (s.sp - 1) (hiByte (s.pc + BitVec.ofNat 16 n)) (start s)) fun t =>
        andThen (memWrite (s.sp - 2) (loByte (s.pc + BitVec.ofNat 16 n)) t) fun u =>
          .next (jump n k target { u with sp := s.sp - 2 }) :=
  andThen_push16 (s.pc + BitVec.ofNat 16 n) (start s) _

/-- Settles O18: a call that goes on is two byte writes and a jump; an untaken Ccc is one `advance`. -/
theorem callsPushTheReturnAddress : Obligations.CallsPushTheReturnAddress := by
  intro s i bytes calls target cost h
  obtain ⟨hdecode, hcall⟩ := callForm_spec h
  refine ⟨hdecode, fun hcalls => ?_, fun cc a hi huntaken => ?_⟩
  · have hexec := (hcall hcalls).trans (callTo_eq_writes _ _ _ _)
    refine ⟨fun ha hb => ?_, stopsInTwoWrites hexec⟩
    have hnext := exec_twoWrites_next hexec ha hb
    exact ⟨_, hnext, wroteTwo_storeByte _ _ ha hb, rfl, rfl, jumped_jump _ _ _ rfl rfl⟩
  · subst hi
    cases h
    exact ⟨_, exec_ccc_untaken target huntaken, rfl, ended_advance 3 11 rfl rfl rfl⟩

/-- Settles O21: the two calls of diagnostic mode are a print and a halt. -/
theorem diagnosticCallsAreIntercepted : Obligations.DiagnosticCallsAreIntercepted := by
  exact fun s h => ⟨⟨_, exec_call_print h, rfl, ended_advance 3 17 rfl rfl rfl, rfl⟩,
    ⟨_, exec_call_exit h, rfl, rfl, rfl, rfl, toInt_haltSentinel⟩⟩

/-! ### Popping what was pushed (R42, R43) -/

/-- The low byte's mirror falls on the high byte at the mirror offset 1 only. -/
theorem hits_below_iff (cfg : CoreConfig) (sp : Word) :
    hits cfg (sp - 2) (sp - 1) = true → cfg.mirrorOffset = 1 := by
  simp only [hits, decide_eq_true_eq]
  rintro (h | ⟨-, h⟩)
  · bv_omega
  · bv_omega

/-- Both bytes of a push are read back, the high one too unless the low one's mirror is on it. -/
theorem popValue_of_push16 {s t : State} {v : Word} (h : push16 v s = .next t)
    (hoff : s.cfg.mirrorOffset ≠ 1) : popValue t = v := by
  obtain ⟨ha, hb, rfl⟩ := push16_eq_next.1 h
  have hwrote := wroteTwo_storeByte (s := s) (hiByte v) (loByte v) ha hb
  have hlo : memRead (storeByte (s.sp - 2) (loByte v) (storeByte (s.sp - 1) (hiByte v) (start s)))
      (s.sp - 2) = loByte v := by
    rw [hwrote, if_pos (by simp [hits])]
  have hhi : memRead (storeByte (s.sp - 2) (loByte v) (storeByte (s.sp - 1) (hiByte v) (start s)))
      (s.sp - 2 + 1) = hiByte v := by
    have hsp : s.sp - 2 + 1 = s.sp - 1 := by bv_omega
    rw [hsp, hwrote, if_neg (mt (hits_below_iff s.cfg s.sp) hoff), if_pos (by simp [hits])]
  exact (congrArg₂ joinBytes hhi hlo).trans (joinBytes_hi_lo v)

/-- RET after a push and a jump pops the word pushed and gives SP back, whatever the jump wrote beside. -/
theorem exec_ret_of_push16 {s t u : State} {v : Word} (hpush : push16 v s = .next t)
    (hoff : s.cfg.mirrorOffset ≠ 1) (hmem : u.mem = t.mem) (hsp : u.sp = t.sp) :
    exec .ret u = .next (jump 1 10 v { start u with sp := s.sp }) := by
  have hpop : popValue u = v := by
    rw [← popValue_of_push16 hpush hoff, popValue, popValue, memRead, memRead, memRead, memRead,
      hmem, hsp]
  have hback : popped (start u) = { start u with sp := s.sp } := by
    obtain ⟨-, -, rfl⟩ := push16_eq_next.1 hpush
    have hsum : u.sp + 2 = s.sp := by rw [hsp]; bv_omega
    exact congrArg (fun sp => { start u with sp := sp }) hsum
  rw [← hback, ← hpop]
  rfl

/-- Settles O20: RET pops the address the call pushed. -/
theorem returnUndoesCall : Obligations.ReturnUndoesCall := by
  intro s i bytes calls target cost t h hcalls hnext hoff
  rw [(callForm_spec h).2 hcalls] at hnext
  obtain ⟨u, hpush, rfl⟩ := callTo_eq_next.1 hnext
  exact ⟨_, exec_ret_of_push16 hpush hoff rfl rfl, rfl, rfl⟩

/-! ### Interrupt entry (R159, R160, R164) -/

theorem generateInterrupt_of_lt (n : Nat) (h : n < 8) (s : State) :
    generateInterrupt n s = interruptEntry (BitVec.ofNat 3 n) s := by
  rw [generateInterrupt, if_pos (by omega), BitVec.ofInt_natCast]

theorem generateInterrupt_of_outside {n : Int} (h : n < 0 ∨ 7 < n) (s : State) :
    generateInterrupt n s = .refused (.rstOutOfRange n) :=
  if_neg (by omega)

theorem generateInterrupt_eq_next {n : Int} {s t : State} (h : generateInterrupt n s = .next t) :
    ∃ k u, push16 s.pc s = .next u ∧
      t = { u with pc := vector k, inte := false, halted := false } := by
  unfold generateInterrupt at h
  split at h
  · obtain ⟨u, hpush, rfl⟩ := interruptEntry_eq_next.1 h
    exact ⟨_, u, hpush, rfl⟩
  · cases h

theorem toNat_vector (n : Nat) (h : n < 8) : (vector (BitVec.ofNat 3 n)).toNat = 8 * n := by
  rw [vector_eq_ofNat, BitVec.toNat_ofNat, BitVec.toNat_ofNat]
  omega

theorem interruptEntry_of_push16_fault {n : BitVec 3} {s : State} {f : Fault}
    (h : push16 s.pc s = .fault f) : interruptEntry n s = .fault f := by
  rw [interruptEntry, h, andThen_fault]

/-- Settles O46: an interrupt entry is one push of PC and the writes of PC, INTE and `halted`. -/
theorem interruptEntryPushesPc : Obligations.InterruptEntryPushesPc := by
  refine ⟨fun s n hn => ?_, fun s n h => generateInterrupt_of_outside h s⟩
  rw [generateInterrupt_of_lt n hn]
  refine ⟨fun ha hb => ?_, fun cause ha => ?_, fun cause ha hb => ?_⟩
  · have hpush := (push16_eq_next (v := s.pc)).2 ⟨ha, hb, rfl⟩
    exact ⟨_, interruptEntry_eq_next.2 ⟨_, hpush, rfl⟩, wroteTwo_storeByte _ _ ha hb, rfl,
      toNat_vector n hn, rfl, rfl, rfl⟩
  · have hpush := (push16_eq_fault (v := s.pc)).2 (.inl ⟨cause, ha, rfl⟩)
    exact ⟨_, interruptEntry_of_push16_fault hpush, faultOf_cause _ _, faultOf_left _ _⟩
  · have hpush := (push16_eq_fault (v := s.pc)).2 (.inr ⟨ha, cause, hb, rfl⟩)
    refine ⟨_, interruptEntry_of_push16_fault hpush, faultOf_cause _ _, ?_⟩
    rw [faultOf_left]
    exact ⟨wrote_storeByte _ ha, rfl⟩

/-- Settles O47: RET pops the PC the interrupt entry pushed, and writes no pin. -/
theorem returnUndoesInterruptEntry : Obligations.ReturnUndoesInterruptEntry := by
  intro s n t h hoff
  obtain ⟨k, u, hpush, rfl⟩ := generateInterrupt_eq_next h
  exact ⟨_, exec_ret_of_push16 hpush hoff rfl rfl, rfl, rfl, rfl⟩

end Sys2Proof.Proofs
end

section
/-! SUPPORT. The proofs of the I/O and machine control obligations (46_stack_io_control.md): IN and OUT as one
handler call each, and EI, DI, NOP and HLT. -/

namespace Sys2Proof.Proofs

open Sys2Proof.Machine Sys2Proof.Claims

/-! ### IN and OUT (R44 to R46, R145, R146) -/

@[simp] theorem useReply_replies (s : State) : (useReply s).replies = s.replies.tail := by
  unfold useReply
  split <;> simp [*]

@[simp] theorem useReply_draws (s : State) :
    (useReply s).draws = if s.replies = [] then s.draws + 1 else s.draws := by
  unfold useReply
  split <;> simp [*]

/-- All a handler call changes (R46). -/
theorem callHandler_eq (ev : HostEvent) (s : State) :
    callHandler ev s = { s with
      portBytes := writePorts (nextReply s).portWrites s.portBytes
      replies := s.replies.tail
      draws := if s.replies = [] then s.draws + 1 else s.draws
      hostLog := ev :: s.hostLog } := by
  rw [← useReply_replies, ← useReply_draws]
  unfold callHandler useReply
  split <;> rfl

theorem exec_inp_populated {s : State} {p : Byte} (h : p ∈ s.inHandlers) :
    exec (.inp p) s = .next (advance 2 10 { start s with
      a := (nextReply s).value
      portBytes := writePorts (nextReply s).portWrites s.portBytes
      replies := s.replies.tail
      draws := if s.replies = [] then s.draws + 1 else s.draws
      hostLog := .inCall p (nextReply s).value :: s.hostLog }) := by
  rw [exec, execInp, faulting, portIn_populated (s := start s) h, callHandler_eq]
  rfl

theorem exec_inp_unpopulated {s : State} {p : Byte} (h : p ∉ s.inHandlers) :
    exec (.inp p) s = .fault (.unimplementedInPort p (start s)) := by
  simp [exec, execInp, faulting, portIn_unpopulated (s := start s) h]

theorem exec_outp_populated {s : State} {p : Byte} (h : p ∈ s.outHandlers) :
    exec (.outp p) s = .next (advance 2 10 { start s with
      portBytes := writePorts (nextReply s).portWrites s.portBytes
      replies := s.replies.tail
      draws := if s.replies = [] then s.draws + 1 else s.draws
      hostLog := .outCall p s.a :: s.hostLog }) := by
  rw [exec, execOutp, faulting, portOut_populated (s := start s) _ h, callHandler_eq]
  rfl

theorem exec_outp_unpopulated {s : State} {p : Byte} (h : p ∉ s.outHandlers) :
    exec (.outp p) s = .fault (.unimplementedOutPort p (start s)) := by
  simp [exec, execOutp, faulting, portOut_unpopulated (s := start s) _ h]

theorem nextReply_of_settled {s : State} {r : HandlerReply} {rest : List HandlerReply}
    (h : s.replies = r :: rest) : nextReply s = r := by
  rw [nextReply, h]

/-- Settles O25: with a handler IN is one handler call and a write of A; without one it faults. -/
theorem inReadsTheHandlersAnswer : Obligations.InReadsTheHandlersAnswer := by
  refine fun s p => ⟨decodes_two rfl rfl, fun hp => ?_, fun hp =>
    stopsWith_faultOf (cause := .unimplementedInPort p) (exec_inp_unpopulated hp)⟩
  refine ⟨_, nextReply s, exec_inp_populated hp, rfl, rfl, rfl, fun _ => rfl, fun r rest hr => ?_,
    ended_advance 2 10 rfl rfl rfl, rfl⟩
  exact ⟨nextReply_of_settled hr, by simp [hr], by simp [hr]⟩

/-- Settles O26: with a handler OUT is one handler call; without one it faults. -/
theorem outCallsTheHandlerOnce : Obligations.OutCallsTheHandlerOnce := by
  refine fun s p => ⟨decodes_two rfl rfl, fun hp => ?_, fun hp =>
    stopsWith_faultOf (cause := .unimplementedOutPort p) (exec_outp_unpopulated hp)⟩
  refine ⟨_, nextReply s, exec_outp_populated hp, rfl, rfl, fun _ => rfl, fun r rest hr => ?_,
    ended_advance 2 10 rfl rfl rfl, rfl⟩
  exact ⟨nextReply_of_settled hr, by simp [hr], by simp [hr]⟩

/-! ### EI, DI, NOP and HLT (R147 to R150) -/

theorem getPin_inte (s : State) : getPin "INTE" s = .next s.inte := rfl

/-- Settles O27: EI and DI write INTE in their own Step, and NOP only ends it. -/
theorem eiAndDiWriteInteAndNopNothing : Obligations.EiAndDiWriteInteAndNopNothing := by
  refine ⟨⟨decodes_one rfl rfl, fun s => ⟨_, rfl, getPin_inte _, ?_, rfl⟩⟩,
    ⟨decodes_one rfl rfl, fun s => ⟨_, rfl, getPin_inte _, ?_, rfl⟩⟩,
    ⟨decodes_one rfl rfl, fun s => ⟨_, rfl, rfl, ?_⟩⟩⟩ <;>
  exact ended_advance 1 4 rfl rfl rfl

/-- Settles O28: HLT is one `halt`, which leaves PC where it is. -/
theorem hltStaysAtItsAddress : Obligations.HltStaysAtItsAddress :=
  ⟨decodes_one rfl rfl, fun _ => ⟨_, rfl, rfl, rfl, rfl, rfl, toInt_haltSentinel⟩⟩

end Sys2Proof.Proofs
end

section
/-! SUPPORT. What executing any instruction can do (40_step.md, 60_exceptions.md section 1), said once: how a
Step that goes on ends and what it leaves alone, and what a fault leaves. The whole-machine obligations are
read off these two lists of cases. -/

namespace Sys2Proof.Proofs

open Sys2Proof.Machine Sys2Proof.Claims

/-! ### The cycles of a conditional call and return (R135, R137) -/

theorem cycleCost_ccc_taken {f : Flags} {cc : Cond} (a : Word) (h : condTrue f cc) :
    cycleCost f (.ccc cc a) = 17 :=
  if_pos ((holds_iff_condTrue f cc).2 h)

theorem cycleCost_ccc_untaken {f : Flags} {cc : Cond} (a : Word) (h : ¬condTrue f cc) :
    cycleCost f (.ccc cc a) = 11 :=
  if_neg (mt (holds_iff_condTrue f cc).1 h)

theorem cycleCost_rcc_taken {f : Flags} {cc : Cond} (h : condTrue f cc) :
    cycleCost f (.rcc cc) = 11 :=
  if_pos ((holds_iff_condTrue f cc).2 h)

theorem cycleCost_rcc_untaken {f : Flags} {cc : Cond} (h : ¬condTrue f cc) :
    cycleCost f (.rcc cc) = 5 :=
  if_neg (mt (holds_iff_condTrue f cc).1 h)

/-! ### The parts an instruction may write -/

/-- The instructions that call a port handler (R46). -/
def usesPorts : Instr → Bool
  | .inp _ | .outp _ => true
  | _ => false

/-- `s` with the parts that `i` is listed to write taken from `u`. -/
def takeWritten (i : Instr) (s u : State) : State :=
  { s with
    a := u.a, b := u.b, c := u.c, d := u.d, e := u.e, h := u.h, l := u.l
    sp := if writesSp i then u.sp else s.sp
    flags :=
      { z := if (writesFlags i).1 then u.flags.z else s.flags.z
        s := if (writesFlags i).1 then u.flags.s else s.flags.s
        p := if (writesFlags i).1 then u.flags.p else s.flags.p
        ac := if (writesFlags i).1 then u.flags.ac else s.flags.ac
        cy := if (writesFlags i).2 then u.flags.cy else s.flags.cy }
    inte := if i = .ei ∨ i = .di then u.inte else s.inte
    mem := if writesMemory i then u.mem else s.mem
    portBytes := if usesPorts i then u.portBytes else s.portBytes
    replies := u.replies, draws := u.draws, hostLog := u.hostLog }

/-- `u` differs from `s` in parts that `i` is listed to write only. -/
def WritesListed (i : Instr) (s u : State) : Prop := u = takeWritten i s u

/-- The instructions that stop the core: HLT and the diagnostic exit (R149, R171). -/
def Halts (s : State) (i : Instr) : Prop := i = .hlt ∨ s.diagMode = true ∧ i = .call 0x0000

theorem setsPc_of_halts {s : State} {i : Instr} (h : Halts s i) : setsPc s i := by
  obtain rfl | ⟨-, rfl⟩ := h
  · trivial
  · exact .inr (by decide)

theorem WritesListed.pc {i : Instr} {s u : State} (h : WritesListed i s u) : u.pc = s.pc := by
  rw [h]
  rfl

theorem WritesListed.cycles {i : Instr} {s u : State} (h : WritesListed i s u) :
    u.cycles = s.cycles := by
  rw [h]
  rfl

theorem WritesListed.halted {i : Instr} {s u : State} (h : WritesListed i s u) :
    u.halted = s.halted := by
  rw [h]
  rfl

theorem WritesListed.mem {i : Instr} {s u : State} (h : WritesListed i s u)
    (hi : writesMemory i = false) : u.mem = s.mem := by
  rw [h]
  simp [takeWritten, hi]

theorem WritesListed.portBytes {i : Instr} {s u : State} (h : WritesListed i s u)
    (hi : usesPorts i = false) : u.portBytes = s.portBytes := by
  rw [h]
  simp [takeWritten, hi]

theorem writesListed_self (i : Instr) (s : State) : WritesListed i s s := by
  simp [WritesListed, takeWritten]

/-- How a Step that goes on ends, with the length and the cost of the two tables (R62, R181). -/
inductive Completes (i : Instr) (s : State) : State → Prop where
  | advanced (u : State) (hwrites : WritesListed i (start s) u) (hpc : ¬setsPc s i) :
    Completes i s (advance (instrLength i) (cycleCost s.flags i) u)
  | jumped (u : State) (target : Word) (hwrites : WritesListed i (start s) u) (hpc : setsPc s i)
      (hgoes : ¬Halts s i) :
    Completes i s (jump (instrLength i) (cycleCost s.flags i) target u)
  | halted (hhalts : Halts s i) : Completes i s (halt (cycleCost s.flags i) s)

theorem completes_of_callTo {i : Instr} {s t : State} {a : Word}
    (h : callTo (instrLength i) (cycleCost s.flags i) a s = .next t)
    (hwrites : ∀ m sp, WritesListed i (start s) { start s with mem := m, sp := sp })
    (hpc : setsPc s i) (hgoes : ¬Halts s i) : Completes i s t := by
  obtain ⟨u, hpush, rfl⟩ := callTo_eq_next.1 h
  obtain ⟨-, -, rfl⟩ := push16_eq_next.1 hpush
  exact .jumped _ a (hwrites _ _) hpc hgoes

theorem completes_of_storeMKeepCy {i : Instr} {s t : State} {o : AluResult}
    (h : storeMKeepCy o s = .next t) (hi : i = .inrM ∨ i = .dcrM) : Completes i s t := by
  obtain ⟨u, hwrite, ht⟩ := andThen_eq_next.1 h
  obtain ⟨-, rfl⟩ := memWrite_eq_next.1 hwrite
  cases ht
  obtain rfl | rfl := hi <;> exact .advanced _ rfl id

/-- The CALL of diagnostic mode and the CALL that pushes (R134, R170, R171). -/
theorem completes_call {s t : State} {a : Word} (h : exec (.call a) s = .next t) :
    Completes (.call a) s t := by
  obtain hgoes | ⟨hdiag, rfl⟩ | ⟨hdiag, rfl⟩ := call_cases s a
  · rw [exec_call_goes hgoes] at h
    refine completes_of_callTo h (fun _ _ => rfl) (hgoes.imp id And.left) ?_
    rintro (hhlt | ⟨hon, hcall⟩)
    · cases hhlt
    · cases hcall
      simp [hon] at hgoes
  · rw [exec_call_print hdiag] at h
    cases h
    exact .advanced _ rfl (by simp [setsPc, hdiag])
  · rw [exec_call_exit hdiag] at h
    cases h
    exact .halted (.inr ⟨hdiag, rfl⟩)

/-- What every instruction that goes on has done: PC, the cycles and the result are those of one of the
three ends, and the rest is within the lists. -/
theorem exec_completes {i : Instr} {s t : State} (h : exec i s = .next t) : Completes i s t := by
  cases i with
  | movRR r _ | movRM r | mviR r _ | inrR r | dcrR r =>
    cases h
    exact .advanced _ (by cases r <;> rfl) id
  | lxi p _ | inx p | dcx p | popRp p =>
    cases h
    exact .advanced _ (by cases p <;> rfl) id
  | lda | lhld | ldax | xchg | addR | addM | adcR | adcM | subR | subM | sbbR | sbbM | anaR | anaM
  | xraR | xraM | oraR | oraM | cmpR | cmpM | adi | aci | sui | sbi | ani | xri | ori | cpi | dad
  | daa | rlc | rrc | ral | rar | cma | stc | cmc | popPsw | sphl | ei | di | nop =>
    cases h
    exact .advanced _ rfl id
  | movMR | mviM | sta | stax =>
    obtain ⟨u, hbody, rfl⟩ := faulting_eq_next.1 h
    obtain ⟨-, rfl⟩ := memWrite_eq_next.1 hbody
    exact .advanced _ rfl id
  | shld =>
    obtain ⟨u, hbody, rfl⟩ := faulting_eq_next.1 h
    obtain ⟨-, -, rfl⟩ := memWrite16_eq_next.1 hbody
    exact .advanced _ rfl id
  | inrM => exact completes_of_storeMKeepCy ((exec_inrM s).symm.trans h) (.inl rfl)
  | dcrM => exact completes_of_storeMKeepCy ((exec_dcrM s).symm.trans h) (.inr rfl)
  | pushRp | pushPsw =>
    obtain ⟨u, hbody, rfl⟩ := faulting_eq_next.1 h
    obtain ⟨-, -, rfl⟩ := push16_eq_next.1 hbody
    exact .advanced _ rfl id
  | xthl =>
    rw [exec_xthl] at h
    obtain ⟨x, hfirst, hrest⟩ := andThen_eq_next.1 h
    obtain ⟨y, hsecond, ht⟩ := andThen_eq_next.1 hrest
    obtain ⟨-, rfl⟩ := memWrite_eq_next.1 hfirst
    obtain ⟨-, rfl⟩ := memWrite_eq_next.1 hsecond
    cases ht
    exact .advanced _ rfl id
  | inp p =>
    by_cases hp : p ∈ s.inHandlers
    · rw [exec_inp_populated hp] at h
      cases h
      exact .advanced _ rfl id
    · rw [exec_inp_unpopulated hp] at h
      cases h
  | outp p =>
    by_cases hp : p ∈ s.outHandlers
    · rw [exec_outp_populated hp] at h
      cases h
      exact .advanced _ rfl id
    · rw [exec_outp_unpopulated hp] at h
      cases h
  | jmp a =>
    cases h
    exact .jumped (start s) a rfl trivial (by simp [Halts])
  | pchl =>
    cases h
    exact .jumped (start s) s.hl rfl trivial (by simp [Halts])
  | jcc cc a =>
    by_cases hcc : condTrue s.flags cc
    · rw [exec_jcc_taken a hcc] at h
      cases h
      exact .jumped (start s) a rfl hcc (by simp [Halts])
    · rw [exec_jcc_untaken a hcc] at h
      cases h
      exact .advanced (start s) rfl hcc
  | call a => exact completes_call h
  | ccc cc a =>
    by_cases hcc : condTrue s.flags cc
    · rw [exec_ccc_taken a hcc] at h
      exact completes_of_callTo (by rwa [cycleCost_ccc_taken a hcc]) (fun _ _ => rfl) hcc (by simp [Halts])
    · rw [exec_ccc_untaken a hcc] at h
      cases h
      rw [← cycleCost_ccc_untaken a hcc]
      exact .advanced (start s) rfl hcc
  | ret =>
    cases h
    exact .jumped (popped (start s)) _ rfl trivial (by simp [Halts])
  | rcc cc =>
    by_cases hcc : condTrue s.flags cc
    · rw [exec_rcc_taken hcc] at h
      cases h
      rw [← cycleCost_rcc_taken hcc]
      exact .jumped (popped (start s)) _ rfl hcc (by simp [Halts])
    · rw [exec_rcc_untaken hcc] at h
      cases h
      rw [← cycleCost_rcc_untaken hcc]
      exact .advanced (start s) rfl hcc
  | rst n => exact completes_of_callTo h (fun _ _ => rfl) trivial (by simp [Halts])
  | hlt =>
    cases h
    exact .halted (.inl rfl)
  | illegal op => cases h

/-- A Step that goes on has written listed parts, and then PC, the cycles, `halted` and the result. -/
theorem exec_writesListed {i : Instr} {s t : State} (h : exec i s = .next t) :
    ∃ u, WritesListed i (start s) u ∧ OnlyEnd u t := by
  cases exec_completes h with
  | advanced u hwrites => exact ⟨u, hwrites, rfl⟩
  | jumped u _ hwrites => exact ⟨u, hwrites, rfl⟩
  | halted => exact ⟨start s, writesListed_self i (start s), rfl⟩

/-! ### PC, cycles, result and `halted` -/

theorem instrLength_cases (i : Instr) : instrLength i = 1 ∨ instrLength i = 2 ∨ instrLength i = 3 := by
  cases i <;> simp [instrLength]

theorem toInt_instrLength (i : Instr) : (BitVec.ofNat 16 (instrLength i)).toInt = instrLength i := by
  obtain h | h | h := instrLength_cases i <;> rw [h] <;> decide

/-- Settles O35: an `advance` moves PC by the length, a `jump` is a transfer, a `halt` leaves PC. -/
theorem pcAdvancesByTheLength : Obligations.PcAdvancesByTheLength := by
  intro i s t h
  cases exec_completes h with
  | advanced u hwrites hpc =>
    refine ⟨fun _ => by simp [hwrites.pc], fun hi => absurd ?_ hpc⟩
    exact setsPc_of_halts (.inl hi)
  | jumped u target hwrites hpc hgoes =>
    exact ⟨fun hn => absurd hpc hn, fun hi => absurd (.inl hi) hgoes⟩
  | halted hhalts => exact ⟨fun hn => absurd (setsPc_of_halts hhalts) hn, fun _ => rfl⟩

/-- Settles O36: each of the three ends charges the cost of the table and sets `halted` and the result. -/
theorem everyInstructionChargesItsCost : Obligations.EveryInstructionChargesItsCost := by
  intro i s t h
  cases exec_completes h with
  | advanced u hwrites hpc =>
    have hhalted : (advance (instrLength i) (cycleCost s.flags i) u).halted = false := hwrites.halted
    refine ⟨by simp [hwrites.cycles], ?_, fun _ => toInt_instrLength i, fun hh => ?_⟩
    · rw [hhalted]
      exact iff_of_false Bool.false_ne_true (mt setsPc_of_halts hpc)
    · exact absurd (hhalted.symm.trans hh) Bool.false_ne_true
  | jumped u target hwrites hpc hgoes =>
    have hhalted : (jump (instrLength i) (cycleCost s.flags i) target u).halted = false :=
      hwrites.halted
    refine ⟨by simp [hwrites.cycles], ?_, fun _ => toInt_instrLength i, fun hh => ?_⟩
    · rw [hhalted]
      exact iff_of_false Bool.false_ne_true hgoes
    · exact absurd (hhalted.symm.trans hh) Bool.false_ne_true
  | halted hhalts =>
    exact ⟨rfl, iff_of_true rfl hhalts, fun hh => absurd hh.symm Bool.false_ne_true, fun _ => ⟨rfl, toInt_haltSentinel⟩⟩

/-! ### The frames -/

/-- Settles O37: none of these fields is among the parts an instruction may write. -/
theorem noInstructionWritesConfiguration : Obligations.NoInstructionWritesConfiguration := by
  intro i s t h
  obtain ⟨u, hwrites, hend⟩ := exec_writesListed h
  rw [hend, hwrites]
  exact ⟨rfl, rfl, rfl, rfl, rfl, rfl, rfl, rfl, rfl⟩

/-- Settles O38: each part is written by the instructions of its list only. -/
theorem onlyListedInstructionsWriteEachPart : Obligations.OnlyListedInstructionsWriteEachPart := by
  intro i s t h
  obtain ⟨u, hwrites, hend⟩ := exec_writesListed h
  refine ⟨fun hei hdi => ?_, fun hsp => ?_, fun hmem x => ?_, fun hin hout => ?_⟩
  · rw [hend, hwrites]
    simp [takeWritten, hei, hdi]
  · rw [hend, hwrites]
    simp [takeWritten, hsp]
  · have hkept : t.mem = s.mem := by rw [hend]; exact hwrites.mem hmem
    rw [memRead, hkept, memRead]
  · have hports : usesPorts i = false := by
      cases i with
      | inp p => exact absurd rfl (hin p)
      | outp p => exact absurd rfl (hout p)
      | _ => rfl
    rw [hend]
    exact hwrites.portBytes hports

/-- Settles O39: each flag is written by the instructions of its column only. -/
theorem flagsNotListedAreKept : Obligations.FlagsNotListedAreKept := by
  intro i s t h
  obtain ⟨u, hwrites, hend⟩ := exec_writesListed h
  rw [hend, hwrites]
  exact ⟨fun hzspac => by simp [takeWritten, hzspac], fun hcy => by simp [takeWritten, hcy]⟩

end Sys2Proof.Proofs
end

section
/-! SUPPORT. The proofs of the memory obligations (20_memory.md): which check a byte write fails, and that a
canonical memory is determined by what it reads. -/

namespace Sys2Proof.Proofs

open Sys2Proof.Machine Sys2Proof.Claims

/-! ### The check before a byte write (R37, R156) -/

theorem readOnly_iff (cfg : CoreConfig) (a : Word) :
    readOnly cfg a = true ↔ inRoRange cfg a.toNat := by
  cases h : cfg.roRange with
  | none => simp [readOnly, inRoRange, h]
  | some r => simp [readOnly, inRoRange, h, Prod.ext_iff, and_assoc]

theorem writeFault_of_mirror {cfg : CoreConfig} {a : Word} (hoff : cfg.mirrorOffset ≠ 0)
    (h : 65536 ≤ a.toNat + cfg.mirrorOffset.toNat) : writeFault cfg a = some (.mirrorOutOfRange a) :=
  if_pos ⟨hoff, h⟩

section MirrorInBounds

variable {cfg : CoreConfig} {a : Word}
  (h : cfg.mirrorOffset = 0 ∨ a.toNat + cfg.mirrorOffset.toNat < 65536)
include h

/-- Within the mirror bound the check is the read-only range, at each target in turn. -/
theorem writeFault_of_bound :
    writeFault cfg a = ((writeTargets cfg a).find? (readOnly cfg)).map .readOnlyWrite := by
  refine if_neg ?_
  rintro ⟨hoff, hgt⟩
  obtain hzero | hlt := h
  · exact hoff hzero
  · omega

theorem writeFault_of_primary (hro : inRoRange cfg a.toNat) :
    writeFault cfg a = some (.readOnlyWrite a) := by
  rw [← readOnly_iff] at hro
  rw [writeFault_of_bound h, writeTargets]
  split <;> simp [hro]

theorem toNat_mirror (hoff : cfg.mirrorOffset ≠ 0) :
    (a + cfg.mirrorOffset).toNat = a.toNat + cfg.mirrorOffset.toNat := by
  have hlt := h.resolve_left hoff
  rw [BitVec.toNat_add]
  omega

theorem writeFault_of_secondary (hro : ¬inRoRange cfg a.toNat) (hoff : cfg.mirrorOffset ≠ 0)
    (hmirror : inRoRange cfg (a.toNat + cfg.mirrorOffset.toNat)) :
    writeFault cfg a = some (.readOnlyWrite (a + cfg.mirrorOffset)) := by
  rw [← toNat_mirror h hoff, ← readOnly_iff] at hmirror
  rw [← readOnly_iff] at hro
  rw [writeFault_of_bound h, writeTargets, if_neg hoff]
  simp [hro, hmirror]

theorem writeFault_of_writable (hro : ¬inRoRange cfg a.toNat)
    (hmirror : cfg.mirrorOffset ≠ 0 → ¬inRoRange cfg (a.toNat + cfg.mirrorOffset.toNat)) :
    writeFault cfg a = none := by
  rw [← readOnly_iff] at hro
  rw [writeFault_of_bound h, writeTargets]
  split
  · simp [hro]
  · rename_i hoff
    have hm := hmirror hoff
    rw [← toNat_mirror h hoff, ← readOnly_iff] at hm
    simp [hro, hm]

end MirrorInBounds

/-- A check that fails names an address in the read-only range, or the primary address whose mirror is out
of range. -/
theorem writeFault_eq_some {cfg : CoreConfig} {a : Word} {cause : FaultCause}
    (h : writeFault cfg a = some cause) :
    (cfg.mirrorOffset ≠ 0 ∧ 65536 ≤ a.toNat + cfg.mirrorOffset.toNat ∧ cause = .mirrorOutOfRange a) ∨
      ∃ x : Word, inRoRange cfg x.toNat ∧ cause = .readOnlyWrite x := by
  by_cases hbound : cfg.mirrorOffset = 0 ∨ a.toNat + cfg.mirrorOffset.toNat < 65536
  · rw [writeFault_of_bound hbound, Option.map_eq_some_iff] at h
    obtain ⟨x, hx, rfl⟩ := h
    exact .inr ⟨x, (readOnly_iff cfg x).1 (List.find?_some hx), rfl⟩
  · rw [not_or, not_lt] at hbound
    obtain ⟨hoff, hle⟩ := hbound
    rw [writeFault_of_mirror hoff hle] at h
    exact .inl ⟨hoff, hle, (Option.some.inj h).symm⟩

/-- Settles O40: the three failing checks and the passing one, in the order of R37. -/
theorem memoryWriteChecksBothTargets : Obligations.MemoryWriteChecksBothTargets := by
  refine fun s a v => ⟨fun hoff h => memWrite_of_some v (writeFault_of_mirror hoff h), fun h => ?_⟩
  refine ⟨fun hro => memWrite_of_some v (writeFault_of_primary h hro), fun hro hoff hm =>
    memWrite_of_some v (writeFault_of_secondary h hro hoff hm), fun hro hm => ?_⟩
  have hpass := writeFault_of_writable h hro hm
  exact ⟨_, memWrite_eq_storeByte v hpass, wrote_storeByte v hpass, rfl⟩

/-! ### Canonical memories (R26) -/

theorem read_of_lt_canonical {hi lo k : Nat} {m : Memory} (h : Memory.canonical hi lo m = true)
    (hk : k < lo) : m.read k = 0x00 := by
  induction m generalizing lo with
  | nil => rfl
  | cons c rest ih =>
    obtain ⟨hle, -, -, hrest⟩ := Memory.canonical_cons.1 h
    rw [Memory.read, if_neg (by omega)]
    exact ih hrest (by omega)

theorem read_head {k : Nat} {v : Byte} {rest : Memory} : Memory.read ((k, v) :: rest) k = v :=
  if_pos rfl

/-- Of two canonical memories that read the same, the first cell of one is not below that of the other. -/
theorem le_of_reads_eq {hi lo k : Nat} {v : Byte} {m rest : Memory}
    (hm : Memory.canonical hi lo m = true) (hv : v ≠ 0x00)
    (hread : m.read k = Memory.read ((k, v) :: rest) k) : lo ≤ k := by
  by_contra hlt
  rw [read_head, read_of_lt_canonical hm (by omega)] at hread
  exact hv hread.symm

/-- What a canonical memory reads determines it: the first cells are at the same address, and so on. -/
theorem eq_of_reads_eq {hi lo : Nat} {m n : Memory} (hm : Memory.canonical hi lo m = true)
    (hn : Memory.canonical hi lo n = true) (h : ∀ k, m.read k = n.read k) : m = n := by
  induction m generalizing lo n with
  | nil =>
    cases n with
    | nil => rfl
    | cons c rest =>
      obtain ⟨-, -, hv, -⟩ := Memory.canonical_cons.1 hn
      exact absurd ((h c.1).trans read_head).symm hv
  | cons c rest ih =>
    obtain ⟨k, v⟩ := c
    obtain ⟨-, hk, hv, hrest⟩ := Memory.canonical_cons.1 hm
    cases n with
    | nil => exact absurd (read_head.symm.trans (h k)) hv
    | cons c' rest' =>
      obtain ⟨k', v'⟩ := c'
      obtain ⟨-, hk', hv', hrest'⟩ := Memory.canonical_cons.1 hn
      have hle : k ≤ k' :=
        le_of_reads_eq (Memory.canonical_cons.2 ⟨le_rfl, hk, hv, hrest⟩) hv' (h k')
      have hge : k' ≤ k :=
        le_of_reads_eq (Memory.canonical_cons.2 ⟨le_rfl, hk', hv', hrest'⟩) hv (h k).symm
      obtain rfl := le_antisymm hle hge
      obtain rfl : v = v' := read_head.symm.trans ((h k).trans read_head)
      refine congrArg _ (ih hrest hrest' fun j => ?_)
      by_cases hj : k = j
      · rw [read_of_lt_canonical hrest (by omega), read_of_lt_canonical hrest' (by omega)]
      · have hjread := h j
        rwa [Memory.read, if_neg hj, Memory.read, if_neg hj] at hjread

/-- Settles O41: both are canonical from address 0 on. -/
theorem equalReadsMeanEqualMemories : Obligations.EqualReadsMeanEqualMemories :=
  fun _ _ hm hn h => eq_of_reads_eq hm hn h

end Sys2Proof.Proofs
end

section
/-! SUPPORT. What a faulting instruction leaves (60_exceptions.md section 1), said once as a list of cases, and
that no instruction is refused. -/

namespace Sys2Proof.Proofs

open Sys2Proof.Machine Sys2Proof.Claims

/-! ### The forms of a meaning -/

/-- The forms a meaning has: it goes on, it writes one byte or two and then goes on, or it faults before any
write. What follows the writes keeps the memory. -/
inductive ExecForm (i : Instr) (s : State) : Result → Prop where
  | next (t : State) (hmem : t.mem = s.mem) : ExecForm i s (.next t)
  | oneWrite (hi : writesMemory i = true) (a : Word) (v : Byte) (g : State → State)
      (hg : ∀ t, (g t).mem = t.mem) :
    ExecForm i s (andThen (memWrite a v (start s)) fun t => .next (g t))
  | twoWrites (hi : writesMemory i = true) (a : Word) (v : Byte) (b : Word) (w : Byte)
      (g : State → State) (hg : ∀ t, (g t).mem = t.mem) :
    ExecForm i s
      (andThen (memWrite a v (start s)) fun t => andThen (memWrite b w t) fun u => .next (g u))
  | illegal (op : Byte) (hi : i = .illegal op) :
    ExecForm i s (.fault (faultOf (.invalidInstruction s.pc op) s))
  | inp (p : Byte) (hi : i = .inp p) (hp : p ∉ s.inHandlers) :
    ExecForm i s (.fault (faultOf (.unimplementedInPort p) (start s)))
  | outp (p : Byte) (hi : i = .outp p) (hp : p ∉ s.outHandlers) :
    ExecForm i s (.fault (faultOf (.unimplementedOutPort p) (start s)))

theorem execForm_push {i : Instr} {s : State} (hi : writesMemory i = true) (v : Word)
    {g : State → State} (hg : ∀ t, (g t).mem = t.mem) :
    ExecForm i s (andThen (push16 v (start s)) fun t => .next (g t)) := by
  rw [andThen_push16]
  exact .twoWrites hi _ _ _ _ (fun u => g { u with sp := s.sp - 2 }) fun _ => hg _

/-- The form of every meaning. -/
theorem exec_form (i : Instr) (s : State) : ExecForm i s (exec i s) := by
  cases i with
  | movRR r _ | movRM r | mviR r _ | inrR r | dcrR r => cases r <;> exact .next _ rfl
  | lxi p _ | inx p | dcx p | popRp p => cases p <;> exact .next _ rfl
  | movMR | mviM | sta | stax => exact .oneWrite rfl _ _ (advance _ _) fun _ => rfl
  | inrM =>
    rw [exec_inrM]
    exact .oneWrite rfl _ _ _ fun _ => rfl
  | dcrM =>
    rw [exec_dcrM]
    exact .oneWrite rfl _ _ _ fun _ => rfl
  | shld =>
    rw [exec_shld]
    exact .twoWrites rfl _ _ _ _ _ fun _ => rfl
  | xthl =>
    rw [exec_xthl]
    exact .twoWrites rfl _ _ _ _ _ fun _ => rfl
  | pushRp | pushPsw => exact execForm_push rfl _ fun _ => rfl
  | rst => exact execForm_push rfl _ fun _ => rfl
  | call a =>
    obtain hgoes | ⟨hdiag, rfl⟩ | ⟨hdiag, rfl⟩ := call_cases s a
    · rw [exec_call_goes hgoes]
      exact execForm_push rfl _ fun _ => rfl
    · rw [exec_call_print hdiag]
      exact .next _ rfl
    · rw [exec_call_exit hdiag]
      exact .next _ rfl
  | ccc cc a =>
    by_cases hcc : condTrue s.flags cc
    · rw [exec_ccc_taken a hcc]
      exact execForm_push rfl _ fun _ => rfl
    · rw [exec_ccc_untaken a hcc]
      exact .next _ rfl
  | jcc cc a =>
    by_cases hcc : condTrue s.flags cc
    · rw [exec_jcc_taken a hcc]
      exact .next _ rfl
    · rw [exec_jcc_untaken a hcc]
      exact .next _ rfl
  | rcc cc =>
    by_cases hcc : condTrue s.flags cc
    · rw [exec_rcc_taken hcc]
      exact .next _ rfl
    · rw [exec_rcc_untaken hcc]
      exact .next _ rfl
  | inp p =>
    by_cases hp : p ∈ s.inHandlers
    · rw [exec_inp_populated hp]
      exact .next _ rfl
    · rw [exec_inp_unpopulated hp]
      exact .inp p rfl hp
  | outp p =>
    by_cases hp : p ∈ s.outHandlers
    · rw [exec_outp_populated hp]
      exact .next _ rfl
    · rw [exec_outp_unpopulated hp]
      exact .outp p rfl hp
  | illegal op => exact .illegal op rfl
  | _ => exact .next _ rfl

theorem ExecForm.not_refused {i : Instr} {s : State} {out : Result} (hform : ExecForm i s out)
    (r : Refusal) : out ≠ .refused r := by
  cases hform with
  | oneWrite hi a v g =>
    intro h
    obtain hfirst | ⟨t, -, hend⟩ := andThen_eq_refused.1 h
    · exact memWrite_not_refused _ _ _ _ hfirst
    · cases hend
  | twoWrites hi a v b w g =>
    intro h
    obtain hfirst | ⟨t, -, hrest⟩ := andThen_eq_refused.1 h
    · exact memWrite_not_refused _ _ _ _ hfirst
    · obtain hsecond | ⟨u, -, hend⟩ := andThen_eq_refused.1 hrest
      · exact memWrite_not_refused _ _ _ _ hsecond
      · cases hend
  | next | illegal | inp | outp => exact fun h => nomatch h

/-- An instruction goes on or faults. -/
theorem exec_not_refused (i : Instr) (s : State) (r : Refusal) : exec i s ≠ .refused r :=
  (exec_form i s).not_refused r

theorem ExecForm.keeps_mem_wf {i : Instr} {s t : State} {out : Result} (hform : ExecForm i s out)
    (h : out = .next t) (hwf : s.mem.wf = true) : t.mem.wf = true := by
  cases hform with
  | next t' hmem =>
    cases h
    rwa [hmem]
  | oneWrite hi a v g hg =>
    obtain ⟨u, hfirst, hend⟩ := andThen_eq_next.1 h
    obtain ⟨-, rfl⟩ := memWrite_eq_next.1 hfirst
    cases hend
    rw [hg]
    exact storeAll_wf v _ hwf
  | twoWrites hi a v b w g hg =>
    obtain ⟨u, hfirst, hrest⟩ := andThen_eq_next.1 h
    obtain ⟨x, hsecond, hend⟩ := andThen_eq_next.1 hrest
    obtain ⟨-, rfl⟩ := memWrite_eq_next.1 hfirst
    obtain ⟨-, rfl⟩ := memWrite_eq_next.1 hsecond
    cases hend
    rw [hg]
    exact storeAll_wf w _ (storeAll_wf v _ hwf)
  | illegal | inp | outp => cases h

/-- A Step that goes on keeps the canonical form of memory. -/
theorem exec_keeps_mem_wf {i : Instr} {s t : State} (h : exec i s = .next t)
    (hwf : s.mem.wf = true) : t.mem.wf = true :=
  (exec_form i s).keeps_mem_wf h hwf

/-! ### How an instruction faults -/

/-- The cases of a fault: its cause, and the state it leaves. A writer leaves the bytes written before the
refused one (R154). -/
inductive FaultsBy (i : Instr) (s : State) : Fault → Prop where
  | illegal (op : Byte) (hi : i = .illegal op) :
    FaultsBy i s (faultOf (.invalidInstruction s.pc op) s)
  | write (hi : writesMemory i = true) (a : Word) (cause : FaultCause)
      (hcause : writeFault s.cfg a = some cause) (m : Memory)
      (hmem : s.mem.wf = true → m.wf = true) :
    FaultsBy i s (faultOf cause { start s with mem := m })
  | inp (p : Byte) (hi : i = .inp p) (hp : p ∉ s.inHandlers) :
    FaultsBy i s (faultOf (.unimplementedInPort p) (start s))
  | outp (p : Byte) (hi : i = .outp p) (hp : p ∉ s.outHandlers) :
    FaultsBy i s (faultOf (.unimplementedOutPort p) (start s))

theorem ExecForm.faultsBy {i : Instr} {s : State} {out : Result} {f : Fault}
    (hform : ExecForm i s out) (h : out = .fault f) : FaultsBy i s f := by
  cases hform with
  | next => cases h
  | oneWrite hi a v g =>
    obtain hfirst | ⟨t, -, hend⟩ := andThen_eq_fault.1 h
    · obtain ⟨cause, hcause, rfl⟩ := memWrite_eq_fault.1 hfirst
      exact .write (s := s) hi a cause hcause s.mem id
    · cases hend
  | twoWrites hi a v b w g =>
    obtain hfirst | ⟨t, hfirst, hrest⟩ := andThen_eq_fault.1 h
    · obtain ⟨cause, hcause, rfl⟩ := memWrite_eq_fault.1 hfirst
      exact .write (s := s) hi a cause hcause s.mem id
    · obtain ⟨-, rfl⟩ := memWrite_eq_next.1 hfirst
      obtain hsecond | ⟨u, -, hend⟩ := andThen_eq_fault.1 hrest
      · obtain ⟨cause, hcause, rfl⟩ := memWrite_eq_fault.1 hsecond
        exact .write (s := s) hi b cause hcause _ (storeAll_wf v _)
      · cases hend
  | illegal op hi =>
    cases h
    exact .illegal op hi
  | inp p hi hp =>
    cases h
    exact .inp p hi hp
  | outp p hi hp =>
    cases h
    exact .outp p hi hp

/-- How every instruction that faults does so. -/
theorem exec_faultsBy {i : Instr} {s : State} {f : Fault} (h : exec i s = .fault f) :
    FaultsBy i s f :=
  (exec_form i s).faultsBy h

/-! ### What raises each fault, and what it leaves -/

/-- Settles O44: each case of a fault names its instruction and its cause. -/
theorem faultsComeFromListedInstructions : Obligations.FaultsComeFromListedInstructions := by
  intro i s f h
  cases exec_faultsBy h with
  | illegal op hi => exact ⟨rfl, hi⟩
  | write hi a cause hcause m =>
    rw [faultOf_cause]
    obtain ⟨hoff, hle, rfl⟩ | ⟨x, hx, rfl⟩ := writeFault_eq_some hcause
    · exact ⟨hi, hoff, hle⟩
    · exact ⟨hi, hx⟩
  | inp p hi hp => exact ⟨hi, hp⟩
  | outp p hi hp => exact ⟨hi, hp⟩

/-- Settles O45: a writer leaves memory and `halted` written, IN and OUT leave `halted` cleared, and an
illegal opcode leaves the state alone. -/
theorem faultsArePrecise : Obligations.FaultsArePrecise := by
  intro i s f h
  cases exec_faultsBy h with
  | illegal op hi => exact ⟨rfl, fun _ => rfl⟩
  | write hi a cause hcause m =>
    rw [faultOf_left]
    exact ⟨rfl, fun hn => absurd (hn.symm.trans hi) Bool.false_ne_true⟩
  | inp p hi hp => exact ⟨rfl, fun _ => rfl⟩
  | outp p hi hp => exact ⟨rfl, fun _ => rfl⟩

end Sys2Proof.Proofs
end

section
/-! SUPPORT. What no instruction reads (10_state.md sections 4 and 5, 70_reset_and_hazards.md section 3): the
pins, the counters, the safe-mode state and the reports. Executing in two states that agree but for one of
these ends the same way, in states that agree but for it. -/

namespace Sys2Proof.Proofs

open Sys2Proof.Machine Sys2Proof.Claims

/-! ### The parts that no instruction reads -/

inductive Unread where
  | pins | counters | safety | reports

/-- Forget the mode and the snapshots of safe mode. -/
def hideSafety (s : State) : State :=
  { s with cfg := { s.cfg with safeMode := false }, snapStack := [] }

/-- Forget what a retry does not take back: the iteration count, `halted`, the result and the reports. -/
def hideReports (s : State) : State :=
  { s with iterations := 0, halted := false, returned := 0, hostLog := [] }

def Unread.hide : Unread → State → State
  | .pins => hidePins
  | .counters => hideCounters
  | .safety => hideSafety
  | .reports => hideReports

/-- Two outcomes of the same kind, in states that agree but for the hidden part. -/
inductive SameBut (u : Unread) : Result → Result → Prop where
  | next {s s' : State} (h : u.hide s = u.hide s') : SameBut u (.next s) (.next s')
  | fault {f f' : Fault} (hcause : f.cause = f'.cause) (h : u.hide f.left = u.hide f'.left) :
    SameBut u (.fault f) (.fault f')

theorem mapLeft_eq_faultOf (g : State → State) (f : Fault) :
    mapLeft g f = faultOf f.cause (g f.left) := by
  cases f <;> rfl

theorem SameBut.mapState_eq {u : Unread} {r r' : Result} (h : SameBut u r r') :
    mapState u.hide r = mapState u.hide r' := by
  cases h with
  | next h => exact congrArg Host.Outcome.next h
  | fault hcause h =>
    rw [mapState, mapState, mapLeft_eq_faultOf, mapLeft_eq_faultOf, hcause, h]

theorem SameBut.symm {u : Unread} {r r' : Result} (h : SameBut u r r') : SameBut u r' r := by
  cases h with
  | next h => exact .next h.symm
  | fault hcause h => exact .fault hcause.symm h.symm

theorem SameBut.trans {u : Unread} {r r' r'' : Result} (h : SameBut u r r') (h' : SameBut u r' r'') :
    SameBut u r r'' := by
  cases h with
  | next h =>
    cases h' with
    | next h' => exact .next (h.trans h')
  | fault hcause h =>
    cases h' with
    | fault hcause' h' => exact .fault (hcause.trans hcause') (h.trans h')

/-! ### Reading and writing registers beside the hidden part -/

section Registers

variable (u : Unread) (s : State)

@[simp] theorem hide_reg (r : Reg) : (u.hide s).reg r = s.reg r := by
  cases u <;> cases r <;> rfl

@[simp] theorem hide_spPair (p : SpPair) : (u.hide s).spPair p = s.spPair p := by
  cases u <;> cases p <;> rfl

@[simp] theorem hide_pair (p : Pair) : (u.hide s).pair p = s.pair p := by
  cases u <;> cases p <;> rfl

@[simp] theorem hide_indexPair (p : IndexPair) : (u.hide s).indexPair p = s.indexPair p := by
  cases u <;> cases p <;> rfl

@[simp] theorem hide_a : (u.hide s).a = s.a := by cases u <;> rfl

@[simp] theorem hide_h : (u.hide s).h = s.h := by cases u <;> rfl

@[simp] theorem hide_l : (u.hide s).l = s.l := by cases u <;> rfl

@[simp] theorem hide_sp : (u.hide s).sp = s.sp := by cases u <;> rfl

@[simp] theorem hide_pc : (u.hide s).pc = s.pc := by cases u <;> rfl

@[simp] theorem hide_diagMode : (u.hide s).diagMode = s.diagMode := by cases u <;> rfl

@[simp] theorem hide_inHandlers : (u.hide s).inHandlers = s.inHandlers := by cases u <;> rfl

@[simp] theorem hide_outHandlers : (u.hide s).outHandlers = s.outHandlers := by cases u <;> rfl

@[simp] theorem hide_acSubRule : (u.hide s).cfg.acSubRule = s.cfg.acSubRule := by cases u <;> rfl

@[simp] theorem hide_hl : (u.hide s).hl = s.hl := by cases u <;> rfl

@[simp] theorem hide_flags : (u.hide s).flags = s.flags := by cases u <;> rfl

@[simp] theorem hide_m : (u.hide s).m = s.m := by cases u <;> rfl

@[simp] theorem hide_memRead (a : Word) : memRead (u.hide s) a = memRead s a := by cases u <;> rfl

@[simp] theorem hide_hide : u.hide (u.hide s) = u.hide s := by cases u <;> rfl

@[simp] theorem start_hide : start (u.hide s) = u.hide (start s) := by cases u <;> rfl

@[simp] theorem hide_setReg (r : Reg) (v : Byte) :
    u.hide ((u.hide s).setReg r v) = u.hide (s.setReg r v) := by
  cases u <;> cases r <;> rfl

@[simp] theorem hide_setSpPair (p : SpPair) (v : Word) :
    u.hide ((u.hide s).setSpPair p v) = u.hide (s.setSpPair p v) := by
  cases u <;> cases p <;> rfl

@[simp] theorem hide_addToA (v : Byte) (c : Bool) :
    u.hide (addToA v c (u.hide s)) = u.hide (addToA v c s) := by
  cases u <;> rfl

@[simp] theorem hide_subFromA (v : Byte) (c : Bool) :
    u.hide (subFromA v c (u.hide s)) = u.hide (subFromA v c s) := by
  cases u <;> rfl

@[simp] theorem hide_logicToA (r : Byte) : u.hide (logicToA r (u.hide s)) = u.hide (logicToA r s) := by
  cases u <;> rfl

@[simp] theorem hide_compareA (v : Byte) : u.hide (compareA v (u.hide s)) = u.hide (compareA v s) := by
  cases u <;> rfl

@[simp] theorem hide_setACarry (r : Byte) (c : Bool) :
    u.hide (setACarry r c (u.hide s)) = u.hide (setACarry r c s) := by
  cases u <;> rfl

end Registers

/-! ### The shared operations ignore the hidden part -/

section Congruence

variable {u : Unread} {s s' : State}

/-- A function of the state that ignores the hidden part agrees on states that agree but for it. -/
theorem eq_of_ignores {α : Type} {f : State → α} (hf : ∀ s, f (u.hide s) = f s)
    (h : u.hide s = u.hide s') : f s = f s' := by
  rw [← hf s, h, hf]

/-- An update that ignores the hidden part keeps the agreement. -/
theorem hide_congr {g : State → State} (hg : ∀ s, u.hide (g (u.hide s)) = u.hide (g s))
    (h : u.hide s = u.hide s') : u.hide (g s) = u.hide (g s') :=
  eq_of_ignores (f := fun x => u.hide (g x)) hg h

theorem hide_advance (n k : Nat) (h : u.hide s = u.hide s') :
    u.hide (advance n k s) = u.hide (advance n k s') :=
  hide_congr (fun _ => by cases u <;> rfl) h

theorem hide_jump (n k : Nat) (target : Word) (h : u.hide s = u.hide s') :
    u.hide (jump n k target s) = u.hide (jump n k target s') :=
  hide_congr (fun _ => by cases u <;> rfl) h

theorem hide_setSp (v : Word) (h : u.hide s = u.hide s') :
    u.hide { s with sp := v } = u.hide { s' with sp := v } :=
  hide_congr (g := fun x => { x with sp := v }) (fun _ => by cases u <;> rfl) h

theorem hide_setFlags (f : Flags) (h : u.hide s = u.hide s') :
    u.hide { s with flags := f } = u.hide { s' with flags := f } :=
  hide_congr (g := fun x => { x with flags := f }) (fun _ => by cases u <;> rfl) h

theorem hide_setHL (x y : Byte) (h : u.hide s = u.hide s') :
    u.hide { s with l := x, h := y } = u.hide { s' with l := x, h := y } :=
  hide_congr (g := fun z => { z with l := x, h := y }) (fun _ => by cases u <;> rfl) h

theorem SameBut.andThen_next {r r' : Result} {g g' : State → State} (hr : SameBut u r r')
    (hg : ∀ t t', u.hide t = u.hide t' → u.hide (g t) = u.hide (g' t')) :
    SameBut u (andThen r fun t => .next (g t)) (andThen r' fun t => .next (g' t)) := by
  cases hr with
  | next h => exact .next (hg _ _ h)
  | fault hcause h => exact .fault hcause h

theorem SameBut.andThen {r r' : Result} {f f' : State → Result} (hr : SameBut u r r')
    (hf : ∀ t t', u.hide t = u.hide t' → SameBut u (f t) (f' t')) :
    SameBut u (andThen r f) (andThen r' f') := by
  cases hr with
  | next h => exact hf _ _ h
  | fault hcause h => exact .fault hcause h

theorem writeFault_hide (u : Unread) (s : State) (a : Word) :
    writeFault (u.hide s).cfg a = writeFault s.cfg a := by
  cases u <;> rfl

theorem sameBut_memWrite {a a' : Word} {v v' : Byte} (ha : a = a') (hv : v = v')
    (h : u.hide s = u.hide s') : SameBut u (memWrite a v s) (memWrite a' v' s') := by
  subst ha hv
  have hcheck : writeFault s.cfg a = writeFault s'.cfg a :=
    eq_of_ignores (f := fun x => writeFault x.cfg a) (fun x => writeFault_hide u x a) h
  cases hfault : writeFault s.cfg a with
  | none =>
    rw [memWrite_of_none v hfault, memWrite_of_none v (hcheck ▸ hfault)]
    exact .next (hide_congr (g := storeByte a v) (fun _ => by cases u <;> rfl) h)
  | some cause =>
    rw [memWrite_of_some v hfault, memWrite_of_some v (hcheck ▸ hfault)]
    exact .fault (by simp) (by simpa using h)

end Congruence

theorem sameBut_push16 (u : Unread) (v : Word) (s : State) :
    SameBut u (push16 v (u.hide s)) (push16 v s) := by
  refine .andThen (sameBut_memWrite (by simp) rfl (hide_hide u s)) fun t t' ht => ?_
  refine .andThen_next (sameBut_memWrite (by simp) rfl ht) fun x x' hx => ?_
  simp only [hide_sp]
  exact hide_setSp (s.sp - 2) hx

theorem sameBut_callTo (u : Unread) (n k : Nat) (target : Word) (s : State) :
    SameBut u (callTo n k target (u.hide s)) (callTo n k target s) := by
  rw [callTo, callTo, start_hide, hide_pc]
  exact .andThen_next (sameBut_push16 u _ _) fun _ _ => hide_jump n k target

theorem sameBut_storeMKeepCy (u : Unread) (o : AluResult) (s : State) :
    SameBut u (storeMKeepCy o (u.hide s)) (storeMKeepCy o s) := by
  refine .andThen_next (sameBut_memWrite (by simp) rfl (by simp)) fun t t' ht => ?_
  rw [hide_flags]
  exact hide_advance 1 10 (hide_setFlags _ ht)

/-- Executing with the hidden part forgotten first. -/
theorem sameBut_exec_hide (u : Unread) (i : Instr) (s : State) :
    SameBut u (exec i (u.hide s)) (exec i s) := by
  cases i with
  | movRR | movRM | mviR | lxi | addR | addM | adcR | adcM | subR | subM | sbbR | sbbM | anaR
  | anaM | xraR | xraM | oraR | oraM | cmpR | cmpM | adi | aci | sui | sbi | ani | xri | ori | cpi
  | inx | dcx | rlc | rrc | ral | rar =>
    exact .next (hide_advance _ _ (by simp))
  | lda | lhld | xchg | daa | cma | stc | cmc | popPsw | sphl | ei | di | nop | hlt | jmp | ret
  | pchl =>
    cases u <;> exact .next rfl
  | ldax p | dad p | popRp p => cases p <;> cases u <;> exact .next rfl
  | inrR r | dcrR r => cases r <;> cases u <;> exact .next rfl
  | movMR | mviM | sta | stax =>
    exact .andThen_next (sameBut_memWrite (by simp) (by simp) (by simp))
      fun _ _ => hide_advance _ _
  | inrM =>
    rw [exec_inrM, exec_inrM, hide_hl, hide_memRead]
    exact sameBut_storeMKeepCy u _ s
  | dcrM =>
    rw [exec_dcrM, exec_dcrM, hide_hl, hide_memRead, hide_acSubRule]
    exact sameBut_storeMKeepCy u _ s
  | shld a =>
    rw [exec_shld, exec_shld]
    exact .andThen (sameBut_memWrite rfl (by simp) (by simp)) fun _ _ ht =>
      .andThen_next (sameBut_memWrite rfl (by simp) ht) fun _ _ => hide_advance _ _
  | xthl =>
    rw [exec_xthl, exec_xthl]
    simp only [hide_sp, hide_memRead]
    exact .andThen (sameBut_memWrite rfl (by simp) (by simp)) fun _ _ ht =>
      .andThen_next (sameBut_memWrite rfl (by simp) ht) fun _ _ hx =>
        hide_advance _ _ (hide_setHL _ _ hx)
  | pushRp p =>
    simp only [exec, execPushRp, faulting, start_hide, hide_pair]
    exact .andThen_next (sameBut_push16 u _ _) fun _ _ => hide_advance _ _
  | pushPsw =>
    simp only [exec, execPushPsw, faulting, start_hide, hide_a, hide_flags]
    exact .andThen_next (sameBut_push16 u _ _) fun _ _ => hide_advance _ _
  | rst => exact sameBut_callTo u _ _ _ s
  | call a =>
    obtain hgoes | ⟨hdiag, rfl⟩ | ⟨hdiag, rfl⟩ := call_cases s a
    · rw [exec_call_goes hgoes, exec_call_goes (by rwa [hide_diagMode])]
      exact sameBut_callTo u _ _ _ s
    · rw [exec_call_print hdiag, exec_call_print (by rwa [hide_diagMode])]
      cases u <;> exact .next rfl
    · rw [exec_call_exit hdiag, exec_call_exit (by rwa [hide_diagMode])]
      cases u <;> exact .next rfl
  | ccc cc a =>
    by_cases hcc : condTrue s.flags cc
    · rw [exec_ccc_taken a hcc, exec_ccc_taken a (by rwa [hide_flags])]
      exact sameBut_callTo u _ _ _ s
    · rw [exec_ccc_untaken a hcc, exec_ccc_untaken a (by rwa [hide_flags])]
      cases u <;> exact .next rfl
  | jcc cc a =>
    by_cases hcc : condTrue s.flags cc
    · rw [exec_jcc_taken a hcc, exec_jcc_taken a (by rwa [hide_flags])]
      cases u <;> exact .next rfl
    · rw [exec_jcc_untaken a hcc, exec_jcc_untaken a (by rwa [hide_flags])]
      cases u <;> exact .next rfl
  | rcc cc =>
    by_cases hcc : condTrue s.flags cc
    · rw [exec_rcc_taken hcc, exec_rcc_taken (by rwa [hide_flags])]
      cases u <;> exact .next rfl
    · rw [exec_rcc_untaken hcc, exec_rcc_untaken (by rwa [hide_flags])]
      cases u <;> exact .next rfl
  | inp p =>
    by_cases hp : p ∈ s.inHandlers
    · rw [exec_inp_populated hp, exec_inp_populated (by rwa [hide_inHandlers])]
      cases u <;> exact .next rfl
    · rw [exec_inp_unpopulated hp, exec_inp_unpopulated (by rwa [hide_inHandlers])]
      exact .fault rfl (by simp [Fault.left])
  | outp p =>
    by_cases hp : p ∈ s.outHandlers
    · rw [exec_outp_populated hp, exec_outp_populated (by rwa [hide_outHandlers])]
      cases u <;> exact .next rfl
    · rw [exec_outp_unpopulated hp, exec_outp_unpopulated (by rwa [hide_outHandlers])]
      exact .fault rfl (by simp [Fault.left])
  | illegal op => cases u <;> exact .fault rfl rfl

/-- Executing in states that agree but for the hidden part ends the same way but for it. -/
theorem sameBut_exec {u : Unread} {s s' : State} (h : u.hide s = u.hide s') (i : Instr) :
    SameBut u (exec i s) (exec i s') := by
  have hleft := (sameBut_exec_hide u i s).symm
  rw [h] at hleft
  exact hleft.trans (sameBut_exec_hide u i s')

/-! ### The pins and the counters -/

theorem step_of_normal {s : State} (h : s.cfg.safeMode = false) :
    step s = exec (fetchInstr s.mem s.pc) (countStep s) :=
  step_normal exec h

/-- The same instruction is fetched in two states that agree but for the hidden part. -/
theorem fetchInstr_eq_of_hide_eq {u : Unread} {s s' : State} (h : u.hide s = u.hide s') :
    fetchInstr s.mem s.pc = fetchInstr s'.mem s'.pc :=
  eq_of_ignores (f := fun x => fetchInstr x.mem x.pc) (fun _ => by cases u <;> rfl) h

/-- Outside safe mode a Step ends the same way in states that agree but for the hidden part. -/
theorem sameBut_step {u : Unread} {s s' : State} (h : u.hide s = u.hide s')
    (hs : s.cfg.safeMode = false) (hs' : s'.cfg.safeMode = false) :
    SameBut u (step s) (step s') := by
  rw [step_of_normal hs, step_of_normal hs', fetchInstr_eq_of_hide_eq h]
  exact sameBut_exec (hide_congr (g := countStep) (fun _ => by cases u <;> rfl) h) _

/-- Settles O49: the instruction fetched is the same, and no instruction reads a pin. -/
theorem pinsDoNotAffectExecution : Obligations.PinsDoNotAffectExecution := by
  intro s x y z h
  have hsame : SameBut .pins (step { s with inte := x, hold := y, wait := z }) (step s) :=
    sameBut_step rfl h h
  exact hsame.mapState_eq

/-- Settles O50: the instruction fetched is the same, and no instruction reads a counter. -/
theorem countersDoNotAffectExecution : Obligations.CountersDoNotAffectExecution := by
  intro s n k h
  have hsame : SameBut .counters (step { s with cycles := n, iterations := k }) (step s) :=
    sameBut_step rfl h h
  exact hsame.mapState_eq

end Sys2Proof.Proofs
end

section
/-! SUPPORT. The proofs of the obligations about one Step (40_step.md section 1) and about safe mode
(60_exceptions.md section 5): what is fetched, and the rule of the wrapper in each of its cases. -/

namespace Sys2Proof.Proofs

open Sys2Proof.Machine Sys2Proof.Claims

/-! ### Fetch (R73, R74) -/

theorem opLength_cases (op : Byte) : opLength op = 1 ∨ opLength op = 2 ∨ opLength op = 3 := by
  rw [lengthIsDeterminedByOpcode op 0 0]
  exact instrLength_cases _

theorem wellFormed_fetchInstr (m : Memory) (pc : Word) : (fetchInstr m pc).wellFormed = true :=
  wellFormed_decodeOp _ _ _

/-- Three bytes decode, with as many operand bytes as the opcode has. -/
theorem decode_three (op b1 b2 : Byte) :
    ∃ rest, decode [op, b1, b2] =
      .ok (decodeOp op (if opLength op ≥ 2 then b1 else 0) (if opLength op = 3 then b2 else 0), rest) := by
  obtain h | h | h := opLength_cases op <;> simp [decode, h]

/-- The three bytes at PC decode to the instruction fetched there. -/
theorem decode_bytesAtPc (s : State) :
    ∃ rest, decode (bytesAtPc s) = .ok (fetchInstr s.mem s.pc, rest) :=
  decode_three _ _ _

theorem decodeOp_of_illegal {op : Byte} (h : op ∈ illegalOpcodes) (b1 b2 : Byte) :
    decodeOp op b1 b2 = .illegal op := by
  have htable : ∀ op ∈ illegalOpcodes, decodeOp op 0 0 = .illegal op := by decide
  rw [decodeOp_eq_withOperands, htable op h]
  rfl

/-- Settles O29: the Step that fetches an illegal opcode counts itself and faults. -/
theorem illegalOpcodesFault : Obligations.IllegalOpcodesFault := by
  refine ⟨fun s op => ⟨_, rfl, rfl, rfl⟩, fun s hsafe hop => ?_⟩
  have hfetch : fetchInstr s.mem s.pc = .illegal (memRead s s.pc) := decodeOp_of_illegal hop _ _
  rw [step_of_normal hsafe, hfetch]
  exact ⟨_, rfl, rfl, rfl⟩

/-- Settles O42: the byte stored is the first of the bytes at its address. -/
theorem fetchSeesTheStore : Obligations.FetchSeesTheStore := by
  intro s a t h
  have hread : memRead t a = s.a := by
    obtain ⟨u, hbody, rfl⟩ := faulting_eq_next.1 h
    obtain ⟨hfault, rfl⟩ := memWrite_eq_next.1 hbody
    exact (wrote_storeByte s.a hfault a).trans (if_pos (by simp [hits]))
  obtain ⟨rest, hdecode⟩ := decode_bytesAtPc { t with pc := a }
  refine ⟨_, rest, ?_, fun hsafe => step_of_normal (s := { t with pc := a }) hsafe⟩
  rw [← hread]
  exact hdecode

/-! ### A Step of safe mode without a pending fault (R169) -/

theorem step_of_safe {s : State} (hsafe : s.cfg.safeMode = true) (hpending : s.pendingFault = false) :
    step s = guardedBody (stepBody exec) s :=
  (step_safe exec hsafe).trans (safeStep_fresh hpending)

/-- Settles O34: `guardedBody` is the wrapper, and `stepBody` runs the instruction at PC. -/
theorem stepRunsTheDecodedInstruction : Obligations.StepRunsTheDecodedInstruction := by
  intro s
  obtain ⟨rest, hdecode⟩ := decode_bytesAtPc s
  refine ⟨_, rest, hdecode, wellFormed_fetchInstr _ _, step_of_normal, fun hsafe hpending => ?_⟩
  rw [step_of_safe hsafe hpending]
  rfl

/-- The instruction of a Step of safe mode runs in the state counted, with its snapshot pushed. -/
def guardedStart (s : State) : State := countStep (pushSnapshot s)

theorem step_of_guarded_next {s t : State} (hsafe : s.cfg.safeMode = true)
    (hpending : s.pendingFault = false)
    (h : exec (fetchInstr s.mem s.pc) (guardedStart s) = .next t) : step s = .next t := by
  rw [step_of_safe hsafe hpending]
  exact guardedBody_eq_next.2 (.inl h)

theorem step_of_guarded_fault {s : State} {f : Fault} (hsafe : s.cfg.safeMode = true)
    (hpending : s.pendingFault = false)
    (h : exec (fetchInstr s.mem s.pc) (guardedStart s) = .fault f) :
    step s = .next (markFault s.pc f) := by
  rw [step_of_safe hsafe hpending]
  exact guardedBody_eq_next.2 (.inr ⟨f, h, rfl⟩)

/-- A Step of safe mode leaves a fault pending only where its instruction faulted. -/
theorem fault_of_pending {s t : State} (hsafe : s.cfg.safeMode = true)
    (hpending : s.pendingFault = false) (h : step s = .next t) (ht : t.pendingFault = true) :
    ∃ f, exec (fetchInstr s.mem s.pc) (guardedStart s) = .fault f ∧ t = markFault s.pc f := by
  rw [step_of_safe hsafe hpending] at h
  obtain hnext | hfault := guardedBody_eq_next.1 h
  · have hkept : t.pendingFault = s.pendingFault :=
      (noInstructionWritesConfiguration _ _ _ hnext).2.2.2.2.1
    rw [hkept, hpending] at ht
    exact absurd ht Bool.false_ne_true
  · exact hfault

/-! ### What a Step can do -/

/-- The states in which the instruction of a Step from `s` can execute (R73, R169). -/
inductive Enters (s : State) : State → Prop where
  | normal (hsafe : s.cfg.safeMode = false) : Enters s (countStep s)
  | fresh (hsafe : s.cfg.safeMode = true) (hpending : s.pendingFault = false) :
    Enters s (guardedStart s)
  | retry (x : Snapshot) (rest : List Snapshot) (hsafe : s.cfg.safeMode = true)
      (hpending : s.pendingFault = true) (hstack : s.snapStack = x :: rest) :
    Enters s (guardedStart (retryState x rest s))

/-- A Step that goes on is one instruction that goes on, or in safe mode one that faults. -/
theorem step_eq_next {s t : State} (h : step s = .next t) :
    ∃ u, Enters s u ∧
      (exec (fetchInstr u.mem u.pc) u = .next t ∨
        s.cfg.safeMode = true ∧ ∃ f, exec (fetchInstr u.mem u.pc) u = .fault f ∧
          t = markFault u.pc f) := by
  cases hsafe : s.cfg.safeMode with
  | false => exact ⟨_, .normal hsafe, .inl ((step_of_normal hsafe).symm.trans h)⟩
  | true =>
    have hstep := (step_safe exec hsafe).symm.trans h
    cases hpending : s.pendingFault with
    | false =>
      rw [safeStep_fresh hpending] at hstep
      exact ⟨_, .fresh hsafe hpending, (guardedBody_eq_next.1 hstep).imp_right (⟨rfl, ·⟩)⟩
    | true =>
      cases hstack : s.snapStack with
      | nil =>
        rw [safeStep, hpending, hstack] at hstep
        cases hstep
      | cons x rest =>
        rw [safeStep_retry hpending hstack] at hstep
        exact ⟨_, .retry x rest hsafe hpending hstack,
          (guardedBody_eq_next.1 hstep).imp_right (⟨rfl, ·⟩)⟩

/-! ### Safe mode computes what normal mode does (D20) -/

theorem eq_of_hideSafety_eq {s t : State} (h : hideSafety s = hideSafety t) :
    t = { s with cfg := t.cfg, snapStack := t.snapStack } :=
  calc t = { hideSafety t with cfg := t.cfg, snapStack := t.snapStack } := rfl
    _ = { hideSafety s with cfg := t.cfg, snapStack := t.snapStack } := by rw [h]

/-- The configuration and the snapshots of the state that a fault leaves. -/
theorem left_keeps_safety {i : Instr} {s : State} {f : Fault} (h : exec i s = .fault f) :
    f.left.cfg = s.cfg ∧ f.left.snapStack = s.snapStack := by
  rw [(faultsArePrecise i s f h).1]
  exact ⟨rfl, rfl⟩

/-- Settles O51: the instruction runs in states that agree but for the mode and the snapshots, which it
does not read and leaves as they are. -/
theorem safeModeIsTransparent : Obligations.SafeModeIsTransparent := by
  intro s hsafe hpending
  have hsame : SameBut .safety (step { s with cfg := { s.cfg with safeMode := false } })
      (exec (fetchInstr s.mem s.pc) (guardedStart s)) := by
    have hhide : hideSafety (countStep { s with cfg := { s.cfg with safeMode := false } }) =
      hideSafety (guardedStart s) := rfl
    rw [step_of_normal (s := { s with cfg := { s.cfg with safeMode := false } }) rfl]
    exact sameBut_exec (u := .safety) hhide _
  refine ⟨fun t ht => ?_, fun f hf => ?_⟩
  · rw [ht] at hsame
    generalize hguarded : exec (fetchInstr s.mem s.pc) (guardedStart s) = r at hsame
    cases hsame with
    | next hhide =>
      rw [step_of_guarded_next hsafe hpending hguarded, eq_of_hideSafety_eq hhide]
      obtain ⟨hcfg, -, -, hstack, -⟩ := noInstructionWritesConfiguration _ _ _ hguarded
      rw [hcfg, hstack]
      rfl
  · rw [hf] at hsame
    generalize hguarded : exec (fetchInstr s.mem s.pc) (guardedStart s) = r at hsame
    cases hsame with
    | fault hcause hhide =>
      obtain ⟨hcfg, hstack⟩ := left_keeps_safety hguarded
      rw [step_of_guarded_fault hsafe hpending hguarded, markFault, ← hcause,
        eq_of_hideSafety_eq hhide, hcfg, hstack]
      rfl

/-! ### The retry (R31, R169) -/

/-- Settles O43: the byte is the table of the 32 flag combinations. -/
theorem packedFlagByteLayout : Obligations.PackedFlagByteLayout := by
  rintro ⟨z, s, p, cy, ac⟩
  revert z s p cy ac
  decide

theorem unpack_pack (f : Flags) : Flags.unpack f.pack = f :=
  (packedFlagByteLayout f).2.2.2.2.2.2.2.2

/-- Restoring the snapshot of `s` gives back everything of `s` that a snapshot holds. -/
theorem restore_snapshot (s t : State) :
    t.restore s.snapshot =
      { s with
        halted := t.halted, iterations := t.iterations
        inHandlers := t.inHandlers, outHandlers := t.outHandlers, cfg := t.cfg
        pendingFault := t.pendingFault, snapStack := t.snapStack, diagMode := t.diagMode
        returned := t.returned, replies := t.replies, draws := t.draws, hostLog := t.hostLog } := by
  simp [State.restore, State.snapshot, State.bc, State.de, State.hl, unpack_pack]

/-- The state in which the Step after a fault retries: `s` again, but for what no snapshot holds. -/
def retried (s t : State) : State :=
  { s with
    iterations := t.iterations
    halted := t.halted
    returned := t.returned
    hostLog := .retryReport s.pc (fetchInstr s.mem s.pc) :: t.hostLog }

theorem retryState_markFault {s : State} {f : Fault} (hpending : s.pendingFault = false)
    (h : exec (fetchInstr s.mem s.pc) (guardedStart s) = .fault f) :
    retryState s.snapshot s.snapStack (markFault s.pc f) = retried s (markFault s.pc f) := by
  obtain ⟨hleft, -⟩ := faultsArePrecise _ _ _ h
  rw [retryState, restore_snapshot, retried, markFault, hleft]
  simp [guardedStart, countStep, hpending, State.snapshot]

/-- Settles O52: the fault left everything the snapshot does not hold as it was, and the retry restores
the rest. -/
theorem faultingStepIsRolledBack : Obligations.FaultingStepIsRolledBack := by
  intro s t hsafe hpending h ht
  obtain ⟨f, hfault, rfl⟩ := fault_of_pending hsafe hpending h ht
  obtain ⟨hcfg, hstack⟩ := left_keeps_safety hfault
  have hmode : (markFault s.pc f).cfg.safeMode = true := by
    rw [markFault_cfg, hcfg]
    exact hsafe
  have hpushed : (markFault s.pc f).snapStack = s.snapshot :: s.snapStack := by
    rw [markFault_snapStack, hstack]
    rfl
  rw [step, step_safe exec hmode, safeStep_retry (markFault_pendingFault s.pc f) hpushed,
    retryState_markFault hpending hfault]
  exact (step_of_safe (s := retried s (markFault s.pc f)) hsafe hpending).symm

/-- Settles O53: the retry runs the same instruction in a state that differs in the iteration count,
`halted`, the result and the reports only, which no instruction reads. -/
theorem retryFaultsAgain : Obligations.RetryFaultsAgain := by
  intro s t hsafe hpending h ht
  have hstep := faultingStepIsRolledBack s t hsafe hpending h ht
  obtain ⟨f, hfault, rfl⟩ := fault_of_pending hsafe hpending h ht
  have hsame : SameBut .reports (exec (fetchInstr s.mem s.pc) (guardedStart s))
      (exec (fetchInstr s.mem s.pc) (guardedStart (retried s (markFault s.pc f)))) := by
    have hhide : hideReports (guardedStart s) =
      hideReports (guardedStart (retried s (markFault s.pc f))) := rfl
    exact sameBut_exec (u := .reports) hhide _
  rw [hfault] at hsame
  generalize hagain : exec (fetchInstr s.mem s.pc)
    (guardedStart (retried s (markFault s.pc f))) = r at hsame
  cases hsame with
  | fault hcause hhide =>
    refine ⟨_, f.cause, ?_, hstep.trans (step_of_guarded_fault (s := retried s (markFault s.pc f))
      hsafe hpending hagain), rfl, ?_, rfl, ?_, ?_, ?_⟩
    · rw [markFault, (faultsArePrecise _ _ _ hfault).1]
      rfl
    · rw [markFault, ← hcause]
      rfl
    · exact (congrArg State.mem hhide).symm
    · exact (congrArg State.sp hhide).symm
    · exact (congrArg State.cycles hhide).symm

end Sys2Proof.Proofs
end

section
/-! SUPPORT. The proofs of the invariant obligations (10_state.md sections 6 to 8, 60_exceptions.md
section 5): the invariant of Safety.lean by its parts, and that instructions, faults, snapshots, retries and
host calls keep it. -/

namespace Sys2Proof.Proofs

open Sys2Proof.Machine Sys2Proof.Claims

/-! ### The invariant by its parts -/

structure Good (s : State) : Prop where
  mem : s.mem.wf = true
  ports : s.portBytes.wfPorts = true
  inRising : portsRising s.inHandlers = true
  outRising : portsRising s.outHandlers = true
  snaps : s.snapStack.all Snapshot.good = true
  result : returnedGood s.returned = true
  pending : s.pendingFault = true → s.snapStack ≠ []

theorem inv_iff_good (s : State) : s.inv = true ↔ Good s := by
  have hpending : (!s.pendingFault || !s.snapStack.isEmpty) = true ↔
      (s.pendingFault = true → s.snapStack ≠ []) := by
    cases s.pendingFault <;> simp
  simp only [State.inv, Bool.and_eq_true, hpending]
  exact ⟨fun ⟨⟨⟨⟨⟨⟨hm, hp⟩, hi⟩, ho⟩, hs⟩, hr⟩, hf⟩ => ⟨hm, hp, hi, ho, hs, hr, hf⟩,
    fun ⟨hm, hp, hi, ho, hs, hr, hf⟩ => ⟨⟨⟨⟨⟨⟨hm, hp⟩, hi⟩, ho⟩, hs⟩, hr⟩, hf⟩⟩

/-- Settles O54: the values are those of `State.reset`. -/
theorem resetStateIsGood : Obligations.ResetStateIsGood := by
  refine ⟨fun r => by cases r <;> rfl, rfl, rfl, rfl, rfl, rfl, rfl, rfl, rfl, rfl, fun _ => rfl,
    fun _ => rfl, rfl, rfl, rfl, rfl, rfl, rfl, rfl, rfl⟩

theorem good_reset : Good State.reset := (inv_iff_good _).1 rfl

/-! ### Instructions and faults -/

theorem returnedGood_instrLength (i : Instr) : returnedGood (BitVec.ofNat 16 (instrLength i)) = true := by
  obtain h | h | h := instrLength_cases i <;> rw [h] <;> rfl

/-- Every end of a Step returns a length or the sentinel (R79). -/
theorem exec_returnedGood {i : Instr} {s t : State} (h : exec i s = .next t) :
    returnedGood t.returned = true := by
  cases exec_completes h with
  | advanced u => exact returnedGood_instrLength i
  | jumped u => exact returnedGood_instrLength i
  | halted => rfl

/-- A handler writes port bytes through `writePorts`, and nothing else does. -/
theorem exec_keeps_ports_wf {i : Instr} {s t : State} (h : exec i s = .next t)
    (hwf : s.portBytes.wfPorts = true) : t.portBytes.wfPorts = true := by
  obtain ⟨-, -, -, hkept⟩ := onlyListedInstructionsWriteEachPart i s t h
  cases i with
  | inp p =>
    by_cases hp : p ∈ s.inHandlers
    · rw [exec_inp_populated hp] at h
      cases h
      exact writePorts_wf _ hwf
    · rw [exec_inp_unpopulated hp] at h
      cases h
  | outp p =>
    by_cases hp : p ∈ s.outHandlers
    · rw [exec_outp_populated hp] at h
      cases h
      exact writePorts_wf _ hwf
    · rw [exec_outp_unpopulated hp] at h
      cases h
  | _ => rwa [hkept (fun _ => nofun) (fun _ => nofun)]

theorem exec_keeps_good {i : Instr} {s t : State} (h : exec i s = .next t) (hs : Good s) : Good t := by
  obtain ⟨-, hin, hout, hstack, hpending, -⟩ := noInstructionWritesConfiguration i s t h
  refine ⟨exec_keeps_mem_wf h hs.mem, exec_keeps_ports_wf h hs.ports, ?_, ?_, ?_,
    exec_returnedGood h, ?_⟩
  · rw [hin]; exact hs.inRising
  · rw [hout]; exact hs.outRising
  · rw [hstack]; exact hs.snaps
  · rw [hstack, hpending]; exact hs.pending

theorem faultsBy_left_mem_wf {i : Instr} {s : State} {f : Fault} (h : FaultsBy i s f)
    (hwf : s.mem.wf = true) : f.left.mem.wf = true := by
  cases h with
  | illegal op hi => exact hwf
  | write hi a cause hcause m hmem => rw [faultOf_left]; exact hmem hwf
  | inp p hi hp => exact hwf
  | outp p hi hp => exact hwf

/-- The state a fault leaves is good, as only its memory and `halted` can differ. -/
theorem good_left {i : Instr} {s : State} {f : Fault} (h : exec i s = .fault f) (hs : Good s) :
    Good f.left := by
  have hmem := faultsBy_left_mem_wf (exec_faultsBy h) hs.mem
  rw [(faultsArePrecise i s f h).1]
  exact { hs with mem := hmem }

/-! ### Snapshots, retries and Steps -/

theorem padding_pack : ∀ z s p cy ac : Bool,
    Flags.pack { z := z, s := s, p := p, cy := cy, ac := ac } &&& 0x2A = 0x02 := by
  decide

theorem good_snapshot {s : State} (hs : Good s) : s.snapshot.good = true := by
  simp only [Snapshot.good, Bool.and_eq_true, decide_eq_true_eq]
  exact ⟨⟨hs.mem, hs.ports⟩, padding_pack _ _ _ _ _⟩

theorem good_pushSnapshot {s : State} (hs : Good s) : Good (pushSnapshot s) :=
  { hs with
    snaps := by simp [good_snapshot hs, hs.snaps]
    pending := fun _ => List.cons_ne_nil _ _ }

theorem good_retryState {s : State} {x : Snapshot} {rest : List Snapshot} (hs : Good s)
    (hstack : s.snapStack = x :: rest) : Good (retryState x rest s) := by
  have hsnaps := hs.snaps
  rw [hstack, List.all_cons, Bool.and_eq_true] at hsnaps
  obtain ⟨hx, hrest⟩ := hsnaps
  simp only [Snapshot.good, Bool.and_eq_true] at hx
  exact { hs with
    mem := hx.1.1, ports := hx.1.2, snaps := hrest, pending := fun h => absurd h Bool.false_ne_true }

theorem good_markFault {pc0 : Word} {f : Fault} (hleft : Good f.left)
    (hstack : f.left.snapStack ≠ []) : Good (markFault pc0 f) :=
  { hleft with result := rfl, pending := fun _ => hstack }

theorem good_guardedStart {s : State} (hs : Good s) : Good (guardedStart s) :=
  { good_pushSnapshot hs with }

theorem good_of_enters {s u : State} (h : Enters s u) (hs : Good s) : Good u := by
  cases h with
  | normal => exact { hs with }
  | fresh => exact good_guardedStart hs
  | retry x rest _ _ hstack => exact good_guardedStart (good_retryState hs hstack)

/-- In safe mode the instruction runs with a snapshot on the stack. -/
theorem snapStack_ne_nil_of_enters {s u : State} (h : Enters s u) (hsafe : s.cfg.safeMode = true) :
    u.snapStack ≠ [] := by
  cases h with
  | normal hnormal => exact absurd (hnormal.symm.trans hsafe) Bool.false_ne_true
  | fresh => exact List.cons_ne_nil _ _
  | retry => exact List.cons_ne_nil _ _

theorem step_keeps_good {s t : State} (h : step s = .next t) (hs : Good s) : Good t := by
  obtain ⟨u, henters, hnext | ⟨hsafe, f, hfault, rfl⟩⟩ := step_eq_next h
  · exact exec_keeps_good hnext (good_of_enters henters hs)
  · refine good_markFault (good_left hfault (good_of_enters henters hs)) ?_
    rw [(left_keeps_safety hfault).2]
    exact snapStack_ne_nil_of_enters henters hsafe

/-- Settles O55: the instruction of a Step starts in a good state, and it or its fault leaves one. -/
theorem stepKeepsTheInvariant : Obligations.StepKeepsTheInvariant :=
  fun s t hs h => (inv_iff_good t).2 (step_keeps_good h ((inv_iff_good s).1 hs))

/-! ### Host calls -/

theorem portsRising_iff_pairwise (l : List Byte) :
    portsRising l = true ↔ l.Pairwise fun p q => p.toNat < q.toNat := by
  induction l with
  | nil => simp [portsRising]
  | cons p rest ih =>
    cases rest with
    | nil => simp [portsRising]
    | cons q rest =>
      rw [portsRising, Bool.and_eq_true, decide_eq_true_eq, ih, List.pairwise_cons (a := p)]
      refine and_congr_left fun hrest => ⟨fun hpq x hx => ?_, fun h => h q List.mem_cons_self⟩
      obtain rfl | hx := List.mem_cons.1 hx
      · exact hpq
      · exact hpq.trans (List.rel_of_pairwise_cons hrest hx)

theorem removePort_eq_filter (l : List Byte) (p : Byte) : removePort l p = l.filter (· ≠ p) := by
  induction l with
  | nil => rfl
  | cons q rest ih =>
    by_cases h : q = p <;> simp [removePort, h, ih]

theorem removePort_rising {l : List Byte} (p : Byte) (h : portsRising l = true) :
    portsRising (removePort l p) = true := by
  rw [portsRising_iff_pairwise] at h ⊢
  rw [removePort_eq_filter]
  exact h.filter _

theorem mem_installPort {l : List Byte} {p q : Byte} (h : q ∈ installPort l p) : q = p ∨ q ∈ l := by
  induction l with
  | nil => exact .inl (List.mem_singleton.1 h)
  | cons r rest ih =>
    rw [installPort] at h
    split_ifs at h
    · exact List.mem_cons.1 h
    · exact .inr h
    · obtain rfl | hq := List.mem_cons.1 h
      · exact .inr List.mem_cons_self
      · exact (ih hq).imp_right (List.mem_cons_of_mem r)

theorem installPort_rising {l : List Byte} (p : Byte) (h : portsRising l = true) :
    portsRising (installPort l p) = true := by
  rw [portsRising_iff_pairwise] at h ⊢
  induction l with
  | nil => exact List.pairwise_singleton _ p
  | cons q rest ih =>
    obtain ⟨hq, hrest⟩ := List.pairwise_cons.1 h
    rw [installPort]
    split_ifs with hlt heq
    · refine List.pairwise_cons.2 ⟨fun x hx => ?_, h⟩
      obtain rfl | hx := List.mem_cons.1 hx
      · exact hlt
      · exact hlt.trans (hq x hx)
    · exact h
    · refine List.pairwise_cons.2 ⟨fun x hx => ?_, ih hrest⟩
      obtain rfl | hx := mem_installPort hx
      · have hne : x.toNat ≠ q.toNat := fun h => heq (BitVec.eq_of_toNat_eq h)
        omega
      · exact hq x hx

theorem hostCall_keeps_good {c : HostCall} {s t : State} (h : hostCall c s = .next t) (hs : Good s) :
    Good t := by
  cases c with
  | generateInterrupt n =>
    obtain ⟨k, u, hpush, rfl⟩ := generateInterrupt_eq_next h
    obtain ⟨-, -, rfl⟩ := push16_eq_next.1 hpush
    exact { hs with mem := storeAll_wf _ _ (storeAll_wf _ _ hs.mem) }
  | setPin name b =>
    simp only [hostCall, setPin] at h
    split at h <;> cases h <;> exact { hs with }
  | construct =>
    cases h
    exact good_reset
  | loadImage offset bytes =>
    simp only [hostCall, loadImage] at h
    split at h
    · cases h
      exact { hs with mem := placeBytes_wf bytes offset hs.mem }
    · cases h
  | writeMem a v =>
    cases h
    exact { hs with mem := Memory.wf_write a v hs.mem }
  | writeReg r v =>
    cases h
    cases r <;> exact { hs with }
  | writePortByte p v =>
    cases h
    exact { hs with ports := Memory.wfPorts_write p v hs.ports }
  | installIn p =>
    cases h
    exact { hs with inRising := installPort_rising p hs.inRising }
  | removeIn p =>
    cases h
    exact { hs with inRising := removePort_rising p hs.inRising }
  | installOut p =>
    cases h
    exact { hs with outRising := installPort_rising p hs.outRising }
  | removeOut p =>
    cases h
    exact { hs with outRising := removePort_rising p hs.outRising }
  | writeSp | writePc | writeFlags | setMirrorOffset | setRoRange | setSafeMode | settleReplies =>
    cases h
    exact { hs with }

/-- Settles O56: each call writes canonical memories and rising port lists, or none of these. -/
theorem hostCallsKeepTheInvariant : Obligations.HostCallsKeepTheInvariant :=
  fun _ s t hs h => (inv_iff_good t).2 (hostCall_keeps_good h ((inv_iff_good s).1 hs))

/-! ### No Step is refused -/

/-- A guarded body goes on, whatever its instruction does. -/
theorem guardedBody_goes_on (s : State) : ∃ t, guardedBody (stepBody exec) s = .next t := by
  unfold guardedBody
  cases h : stepBody exec (pushSnapshot s) with
  | next t => exact ⟨t, rfl⟩
  | fault f => exact ⟨markFault s.pc f, rfl⟩
  | refused r => exact absurd h (exec_not_refused _ _ r)

theorem safe_step_goes_on {s : State} (hs : Good s) (hsafe : s.cfg.safeMode = true) :
    ∃ t, step s = .next t := by
  rw [step, step_safe exec hsafe]
  cases hpending : s.pendingFault with
  | false =>
    rw [safeStep_fresh hpending]
    exact guardedBody_goes_on s
  | true =>
    cases hstack : s.snapStack with
    | nil => exact absurd hstack (hs.pending hpending)
    | cons x rest =>
      rw [safeStep_retry hpending hstack]
      exact guardedBody_goes_on _

theorem step_notRefused {s : State} (hs : Good s) : notRefused (step s) = true := by
  cases hsafe : s.cfg.safeMode with
  | false =>
    rw [step_of_normal hsafe]
    cases h : exec (fetchInstr s.mem s.pc) (countStep s) with
    | refused r => exact absurd h (exec_not_refused _ _ r)
    | _ => rfl
  | true =>
    obtain ⟨t, ht⟩ := safe_step_goes_on hs hsafe
    rw [ht]
    rfl

theorem good_setDiagMode {s : State} (diag : Bool) (hs : Good s) : Good { s with diagMode := diag } :=
  { hs with }

/-- The induction over `Reachable`: reset is good, and Steps and host calls keep it. -/
theorem good_of_reachable {s : State} (h : Reachable s) : Good s := by
  induction h with
  | reset => exact good_reset
  | event e _ ht ih =>
    cases e with
    | step diag => exact step_keeps_good ht (good_setDiagMode diag ih)
    | host c => exact hostCall_keeps_good ht ih

/-- Settles O57: a good state has a snapshot where a fault is pending, and reachable states are good. -/
theorem reachableStepsAreNeverRefused : Obligations.ReachableStepsAreNeverRefused := by
  have hgood : ∀ s diag, Good s → notRefused (stepWith diag s) = true ∧
      (s.cfg.safeMode = true → ∃ t, stepWith diag s = .next t) := fun s diag hs =>
    ⟨step_notRefused (good_setDiagMode diag hs), safe_step_goes_on (good_setDiagMode diag hs)⟩
  exact ⟨fun s diag hs => hgood s diag ((inv_iff_good s).1 hs),
    fun s diag hs => hgood s diag (good_of_reachable hs)⟩

end Sys2Proof.Proofs
end

section
/-! SUPPORT. The proofs of the obligations about Run (40_step.md section 4): the cases of one turn of its loop,
and the three inductions over its Steps. -/

namespace Sys2Proof.Proofs

open Sys2Proof.Machine Sys2Proof.Claims

/-! ### One turn of the loop (R80) -/

/-- No fault waits for a retry. -/
def Settled (s : State) : Prop := (s.cfg.safeMode && s.pendingFault) = false

/-- How a Run that may still make `n + 1` Steps goes on from `s`. -/
inductive RunCase (diag : Bool) (target n : Nat) (s : State) : RunEnd → Prop where
  | spent (hcycles : target ≤ s.cycles) : RunCase diag target n s (.budgetSpent s)
  | fault (f : Fault) : RunCase diag target n s (.fault f)
  | refused (r : Refusal) : RunCase diag target n s (.refused r)
  | halted (t : State) (hstep : stepWith diag s = .next t) (hreturned : t.returned.toInt ≤ 0) :
    RunCase diag target n s (.halted t)
  | reported (t : State) : RunCase diag target n s (.faultReported t)
  | goes (t : State) (hcycles : s.cycles < target) (hstep : stepWith diag s = .next t)
      (hsettled : Settled t) (e : RunEnd) (he : runFrom diag target n t = e) :
    RunCase diag target n s e

theorem runFrom_succ (diag : Bool) (target n : Nat) (s : State) :
    RunCase diag target n s (runFrom diag target (n + 1) s) := by
  rw [runFrom]
  split_ifs with hcycles
  · split
    case h_1 f _ => exact .fault f
    case h_2 r _ => exact .refused r
    case h_3 t hstep =>
      split_ifs with hreturned hpending
      · exact .halted t hstep hreturned
      · exact .reported t
      · exact .goes t hcycles hstep (Bool.eq_false_of_not_eq_true hpending) _ rfl
  · exact .spent (not_lt.1 hcycles)

/-! ### The cycles of a Step -/

theorem cycleCost_le (f : Flags) (i : Instr) : cycleCost f i ≤ 18 := by
  cases i with
  | ccc cc a => rw [cycleCost]; split <;> decide
  | rcc cc => rw [cycleCost]; split <;> decide
  | _ => simp [cycleCost]

/-- An instruction that goes on costs at least a cycle; an illegal one does not go on. -/
theorem cycleCost_pos {i : Instr} {s t : State} (h : exec i s = .next t) : 0 < cycleCost s.flags i := by
  cases i with
  | illegal op => cases h
  | ccc cc a => rw [cycleCost]; split <;> decide
  | rcc cc => rw [cycleCost]; split <;> decide
  | _ => simp [cycleCost]

/-- A Step after which no fault waits is one instruction that goes on. -/
theorem enters_of_settled {s t : State} (h : step s = .next t) (ht : Settled t) :
    ∃ u, Enters s u ∧ exec (fetchInstr u.mem u.pc) u = .next t := by
  obtain ⟨u, henters, hnext | ⟨hsafe, f, hfault, rfl⟩⟩ := step_eq_next h
  · exact ⟨u, henters, hnext⟩
  · have hmode : (markFault u.pc f).cfg.safeMode = true := by
      rw [markFault_cfg, (left_keeps_safety hfault).1]
      cases henters <;> exact hsafe
    rw [Settled, hmode, markFault_pendingFault] at ht
    cases ht

theorem cycles_of_enters {s u : State} (h : Enters s u) (hs : Settled s) : u.cycles = s.cycles := by
  cases h with
  | normal => rfl
  | fresh => rfl
  | retry x rest hsafe hpending =>
    rw [Settled, hsafe, hpending] at hs
    cases hs

/-- Between settled states a Step charges from 1 to 18 cycles. -/
theorem cycles_of_settled_step {diag : Bool} {s t : State} (h : stepWith diag s = .next t)
    (hs : Settled s) (ht : Settled t) : s.cycles < t.cycles ∧ t.cycles ≤ s.cycles + 18 := by
  obtain ⟨u, henters, hexec⟩ := enters_of_settled h ht
  have hstart : u.cycles = s.cycles :=
    cycles_of_enters (s := { s with diagMode := diag }) henters hs
  obtain ⟨hcycles, -⟩ := everyInstructionChargesItsCost _ _ _ hexec
  have hpos := cycleCost_pos hexec
  have hle := cycleCost_le u.flags (fetchInstr u.mem u.pc)
  omega

/-- From any state, a restored one too, the cycles after such a Step are not 0. -/
theorem cycles_pos_of_settled {diag : Bool} {s t : State} (h : stepWith diag s = .next t)
    (ht : Settled t) : 0 < t.cycles := by
  obtain ⟨u, -, hexec⟩ := enters_of_settled h ht
  obtain ⟨hcycles, -⟩ := everyInstructionChargesItsCost _ _ _ hexec
  have hpos := cycleCost_pos hexec
  omega

/-! ### The Run ends, and where -/

/-- With as many Steps left as cycles, the bound is not reached: each Step charges one. -/
theorem runFrom_ne_stepBoundReached {diag : Bool} {target n : Nat} {s t : State} (hs : Settled s)
    (hn : 0 < n) (h : target < n + s.cycles) : runFrom diag target n s ≠ .stepBoundReached t := by
  induction n generalizing s with
  | zero => exact absurd hn (lt_irrefl 0)
  | succ n ih =>
    intro hend
    cases hend ▸ runFrom_succ diag target n s with
    | goes u hcycles hstep hsettled _ he =>
      have hcharged := (cycles_of_settled_step hstep hs hsettled).1
      exact ih hsettled (by omega) (by omega) he

/-- Settles O58: after the first Step, which may restore a snapshot, every Step charges a cycle. -/
theorem runNeverReachesItsStepBound : Obligations.RunNeverReachesItsStepBound := by
  intro budget diag s t hend
  rw [run] at hend
  cases hend ▸ runFrom_succ diag (s.cycles + budget) (s.cycles + budget) s with
  | goes u hcycles hstep hsettled _ he =>
    have hpos := cycles_pos_of_settled hstep hsettled
    exact runFrom_ne_stepBoundReached hsettled (by omega) (by omega) he

/-- The cycles when the budget is spent: the last Step began below the target. -/
theorem runFrom_budgetSpent {diag : Bool} {target n : Nat} {s t : State} (hs : Settled s)
    (hle : s.cycles < target + 18) (h : runFrom diag target n s = .budgetSpent t) :
    target ≤ t.cycles ∧ t.cycles < target + 18 := by
  induction n generalizing s with
  | zero => cases h
  | succ n ih =>
    cases h ▸ runFrom_succ diag target n s with
    | spent hcycles => exact ⟨hcycles, hle⟩
    | goes u hcycles hstep hsettled _ he =>
      have hcharged := (cycles_of_settled_step hstep hs hsettled).2
      exact ih hsettled (by omega) he

/-- Settles O59: the Run begins at most at the target. -/
theorem runExceedsBudgetByOneInstruction : Obligations.RunExceedsBudgetByOneInstruction := by
  intro budget diag s t hpending h
  have hs : Settled s := by rw [Settled, hpending, Bool.and_false]
  exact runFrom_budgetSpent hs (by omega) h

/-! ### A Run that reports Halted -/

/-- An instruction whose result is not positive has halted the core at itself. -/
theorem halts_of_returned {i : Instr} {s t : State} (h : exec i s = .next t)
    (hreturned : t.returned.toInt ≤ 0) :
    t.halted = true ∧ t.mem = s.mem ∧ t.pc = s.pc ∧ Halts s i := by
  have hlength := instrLength_cases i
  cases exec_completes h with
  | advanced u =>
    rw [advance_returned, toInt_instrLength] at hreturned
    omega
  | jumped u =>
    rw [jump_returned, toInt_instrLength] at hreturned
    omega
  | halted hhalts => exact ⟨rfl, rfl, rfl, hhalts⟩

theorem diagMode_of_enters {s u : State} (h : Enters s u) : u.diagMode = s.diagMode := by
  cases h <;> rfl

theorem halts_of_stepWith {diag : Bool} {s t : State} (h : stepWith diag s = .next t)
    (hreturned : t.returned.toInt ≤ 0) :
    t.halted = true ∧
      (fetchInstr t.mem t.pc = .hlt ∨ diag = true ∧ fetchInstr t.mem t.pc = .call 0x0000) := by
  obtain ⟨u, henters, hnext | ⟨-, f, -, rfl⟩⟩ := step_eq_next h
  · obtain ⟨hhalted, hmem, hpc, hhalts⟩ := halts_of_returned hnext hreturned
    rw [hmem, hpc]
    rw [Halts, diagMode_of_enters henters] at hhalts
    exact ⟨hhalted, hhalts⟩
  · rw [markFault_returned] at hreturned
    exact absurd hreturned (by decide)

theorem runFrom_halted {diag : Bool} {target n : Nat} {s t : State}
    (h : runFrom diag target n s = .halted t) :
    t.halted = true ∧
      (fetchInstr t.mem t.pc = .hlt ∨ diag = true ∧ fetchInstr t.mem t.pc = .call 0x0000) := by
  induction n generalizing s with
  | zero => cases h
  | succ n ih =>
    cases h ▸ runFrom_succ diag target n s with
    | halted _ hstep hreturned => exact halts_of_stepWith hstep hreturned
    | goes u hcycles hstep hsettled _ he => exact ih he

/-- Settles O60: the last Step of the Run is an instruction that halted. -/
theorem runReportsHaltedOnlyWhenHalted : Obligations.RunReportsHaltedOnlyWhenHalted :=
  fun _ _ _ _ h => runFrom_halted h

end Sys2Proof.Proofs
end

section
/-! SUPPORT. The proofs of the decimal and of the nine-fold rotate obligations (43_arithmetic.md section 4,
44_logical.md section 3): the two corrections of DAA in numbers, and A with CY as one ring of nine bits. -/

namespace Sys2Proof.Proofs

open Sys2Proof.Machine Sys2Proof.Claims

/-! ### The two corrections of DAA (R114, D4, D5) -/

/-- The correction of the low nibble. -/
def lowCorrection (a : Byte) (ac : Bool) : Nat := if 9 < a.toNat % 16 ∨ ac = true then 6 else 0

theorem daaStep1_toNat (a : Byte) (ac : Bool) :
    (daaStep1 a ac).1.toNat = (a.toNat + lowCorrection a ac) % 256 := by
  unfold daaStep1 lowCorrection
  split
  · rw [BitVec.toNat_add]
    rfl
  · exact (Nat.mod_eq_of_lt a.isLt).symm

theorem daaStep1_carry (a : Byte) (ac : Bool) :
    (daaStep1 a ac).2 = decide (15 < a.toNat % 16 + lowCorrection a ac) := by
  unfold daaStep1 lowCorrection
  split
  · rfl
  · exact (decide_eq_false (by omega)).symm

theorem daaStep2_corrects {a0 a1 : Byte} {cy : Bool}
    (h : 9 < a1.toNat / 16 ∨ 9 < a0.toNat / 16 ∨ cy = true) :
    daaStep2 a0 a1 cy = (a1 + 0x60, true) :=
  if_pos h

theorem daaStep2_keeps {a0 a1 : Byte} {cy : Bool}
    (h : ¬(9 < a1.toNat / 16 ∨ 9 < a0.toNat / 16 ∨ cy = true)) : daaStep2 a0 a1 cy = (a1, false) := by
  have hcy : cy = false := by
    rw [not_or, not_or, Bool.not_eq_true] at h
    exact h.2.2
  rw [daaStep2, if_neg h, hcy]

/-- DAA writes the byte and the carries of `daaAdjust`. -/
theorem exec_daa (s : State) :
    exec .daa s = .next (advance 1 4 { start s with
      a := (daaAdjust s.a s.flags.cy s.flags.ac).r
      flags := s.flags.setAll (daaAdjust s.a s.flags.cy s.flags.ac) }) := rfl

/-- Settles O11: A and the carries are those of the two corrections. -/
theorem daaCorrectsInTwoSteps : Obligations.DaaCorrectsInTwoSteps := by
  refine ⟨decodes_one rfl rfl, fun s => ?_⟩
  have hlow := daaStep1_toNat s.a s.flags.ac
  refine ⟨_, lowCorrection s.a s.flags.ac, _, exec_daa s, rfl, rfl, daaStep1_carry _ _, fun h => ?_,
    fun h => ?_, resultFlags_setAll s.flags _, rfl, ended_advance 1 4 rfl rfl rfl⟩
  · rw [← hlow] at h ⊢
    have hhigh := daaStep2_corrects h
    refine ⟨(congrArg (·.1.toNat) hhigh).trans (BitVec.toNat_add _ _), congrArg (·.2) hhigh⟩
  · rw [← hlow] at h ⊢
    have hhigh := daaStep2_keeps h
    exact ⟨congrArg (·.1.toNat) hhigh, congrArg (·.2) hhigh⟩

/-! ### Decimal addition -/

theorem toNat_bcd {n : Nat} (h : n < 100) : (bcd n).toNat = n / 10 * 16 + n % 10 := by
  rw [bcd, byteOf, BitVec.toNat_ofNat]
  omega

/-- The low correction turns the sum of two ones digits into a carry and a digit. -/
theorem exists_ones_digit {t x y k : Nat} (hx : x < 10) (hy : y < 10) (ht : t % 16 = (x + y) % 16)
    (hk : k = if 9 < t % 16 ∨ 15 < x + y then 6 else 0) :
    ∃ c r, r < 10 ∧ c ≤ 1 ∧ x + y = 10 * c + r ∧ x + y + k = 16 * c + r := by
  rw [ht] at hk
  by_cases hcarry : 10 ≤ x + y
  · rw [if_pos (by omega)] at hk
    exact ⟨1, x + y - 10, by omega, by omega, by omega, by omega⟩
  · rw [if_neg (by omega)] at hk
    exact ⟨0, x + y, by omega, by omega, by omega, by omega⟩

section TensDigit

variable {S k v r t a1 : Nat} (hr : r < 10) (hv : v < 20) (hsum : S + k = 16 * v + r)
  (ht : t = S % 256) (ha1 : a1 = (t + k) % 256)
include hr hv hsum ht ha1

/-- The high correction is made exactly where the tens, with the carry from the ones, reach 10. -/
theorem highCorrection_iff (hk : k ≤ 6) : (9 < a1 / 16 ∨ 9 < t / 16 ∨ 255 < S) ↔ 10 ≤ v := by
  rw [ht, Nat.mod_add_mod, hsum] at ha1
  by_cases hlow : v < 16
  · have hdiv : a1 / 16 = v := by omega
    omega
  · omega

/-- Corrected, the byte holds the digits of the sum modulo 100. -/
theorem highCorrection_digits :
    (10 ≤ v → (a1 + 96) % 256 = (10 * v + r) % 100 / 10 * 16 + (10 * v + r) % 100 % 10) ∧
      (¬10 ≤ v → a1 = (10 * v + r) % 100 / 10 * 16 + (10 * v + r) % 100 % 10) := by
  rw [ht, Nat.mod_add_mod, hsum] at ha1
  have hdigits : (10 * v + r) % 100 / 10 = v % 10 ∧ (10 * v + r) % 100 % 10 = r := by omega
  rw [hdigits.1, hdigits.2, ha1, Nat.mod_add_mod]
  refine ⟨fun hten => ?_, fun hten => ?_⟩
  · have hwrap : v % 10 = v - 10 := by omega
    omega
  · rw [Nat.mod_eq_of_lt (not_le.1 hten), Nat.mod_eq_of_lt (by omega)]
    omega

end TensDigit

/-- Settles O12: the low correction carries where the ones do, and the high one where the tens do. -/
theorem addThenDaaAddsDecimals : Obligations.AddThenDaaAddsDecimals := by
  intro s x y hx hy ha hb
  obtain ⟨-, t, ht, hsum, hcy, hac, -⟩ :=
    additionsWriteSumAndFlags s (.addR .b) _ s.b false 4 rfl
  obtain ⟨u, k, a1, hu, hk, ha1, -, hcorrects, hkeeps, -⟩ := daaCorrectsInTwoSteps.2 t
  rw [ha, hb, toNat_bcd hx, toNat_bcd hy, Bool.toNat_false, Nat.add_zero] at hsum hcy hac
  have hones : t.a.toNat % 16 = (x % 10 + y % 10) % 16 := by omega
  have hones_carry : t.flags.ac = true ↔ 15 < x % 10 + y % 10 := by
    rw [hac, decide_eq_true_iff]
    omega
  simp only [hones_carry] at hk
  obtain ⟨c, r, hr, hc, hdigit, hlow⟩ := exists_ones_digit (by omega) (by omega) hones hk
  obtain ⟨v, hv⟩ : ∃ v, v = x / 10 + y / 10 + c := ⟨_, rfl⟩
  have hxy : x + y = 10 * v + r := by omega
  have hvlt : v < 20 := by omega
  have hlow : x / 10 * 16 + x % 10 + (y / 10 * 16 + y % 10) + k = 16 * v + r := by omega
  have hhigh := highCorrection_iff hr hvlt hlow hsum ha1 (by omega)
  obtain ⟨hcorrected, hkept⟩ := highCorrection_digits hr hvlt hlow hsum ha1
  rw [hcy, decide_eq_true_iff, hhigh] at hcorrects hkeeps
  refine ⟨t, u, ht, hu, ?_⟩
  rw [hxy]
  have hbyte : (bcd ((10 * v + r) % 100)).toNat =
      (10 * v + r) % 100 / 10 * 16 + (10 * v + r) % 100 % 10 := toNat_bcd (Nat.mod_lt _ (by decide))
  by_cases htens : 10 ≤ v
  · obtain ⟨hua, hucy⟩ := hcorrects htens
    refine ⟨BitVec.eq_of_toNat_eq ?_, ?_⟩
    · rw [hua, hbyte, hcorrected htens]
    · rw [hucy, decide_eq_true (by omega)]
  · obtain ⟨hua, hucy⟩ := hkeeps htens
    refine ⟨BitVec.eq_of_toNat_eq ?_, ?_⟩
    · rw [hua, hbyte, ← hkept htens]
    · rw [hucy, decide_eq_false (by omega)]

/-! ### Rotating through the carry (R125, R126) -/

/-- A and CY as a ring of nine bits, CY the last. -/
def ringBit (s : State) (k : Nat) : Bool := if k = 8 then s.flags.cy else s.a.getLsbD k

/-- `t` is `s` with the ring turned by `d` places. -/
def Turned (d : Nat) (s t : State) : Prop :=
  t.flags = { s.flags with cy := t.flags.cy } ∧ ∀ k, k < 9 → ringBit t k = ringBit s ((k + d) % 9)

theorem exec_ral_turns (s : State) : ∃ t, exec .ral s = .next t ∧ Turned 8 s t := by
  obtain ⟨-, t, ht, hbits, hflags, -⟩ := rotatesMoveEachBit s .ral _ _ _ rfl
  refine ⟨t, ht, by rw [hflags], fun k hk => ?_⟩
  by_cases h8 : k = 8
  · simp [ringBit, h8, hflags]
  · by_cases h0 : k = 0
    · subst h0
      exact hbits 0 (by decide)
    · have hprev : (k + 8) % 9 = k - 1 := by omega
      have hne : k - 1 ≠ 8 := by omega
      rw [ringBit, if_neg h8, hbits k (by omega), if_neg h0, hprev, ringBit, if_neg hne]

theorem exec_rar_turns (s : State) : ∃ t, exec .rar s = .next t ∧ Turned 1 s t := by
  obtain ⟨-, t, ht, hbits, hflags, -⟩ := rotatesMoveEachBit s .rar _ _ _ rfl
  refine ⟨t, ht, by rw [hflags], fun k hk => ?_⟩
  by_cases h8 : k = 8
  · simp [ringBit, h8, hflags]
  · by_cases h7 : k = 7
    · subst h7
      exact hbits 7 (by decide)
    · have hnext : (k + 1) % 9 = k + 1 := by omega
      have hne : k + 1 ≠ 8 := by omega
      rw [ringBit, if_neg h8, hbits k (by omega), if_neg h7, hnext, ringBit, if_neg hne]

/-- Turning by `d` places `n` times turns by `d * n`. -/
theorem execTimes_turns {i : Instr} {d : Nat}
    (hstep : ∀ s, ∃ t, exec i s = .next t ∧ Turned d s t) (n : Nat) (s : State) :
    ∃ t, execTimes i n s = .next t ∧ Turned (d * n) s t := by
  induction n generalizing s with
  | zero => exact ⟨s, rfl, rfl, fun k hk => by rw [Nat.mul_zero, Nat.add_zero, Nat.mod_eq_of_lt hk]⟩
  | succ n ih =>
    obtain ⟨t, ht, htflags, htbits⟩ := hstep s
    obtain ⟨u, hu, huflags, hubits⟩ := ih t
    refine ⟨u, by rw [execTimes, ht, andThen_next, hu], by rw [huflags, htflags], fun k hk => ?_⟩
    rw [hubits k hk, htbits _ (Nat.mod_lt _ (by decide)), Nat.mod_add_mod, Nat.mul_succ,
      Nat.add_assoc]

/-- Turning by nine places, or a multiple, changes neither A nor a flag. -/
theorem eq_of_turned_nine {d : Nat} {s t : State} (h : Turned (d * 9) s t) :
    t.a = s.a ∧ t.flags = s.flags := by
  obtain ⟨hflags, hbits⟩ := h
  have hsame : ∀ k, k < 9 → ringBit t k = ringBit s k := fun k hk => by
    rw [hbits k hk, Nat.add_mul_mod_self_right, Nat.mod_eq_of_lt hk]
  have hcy : t.flags.cy = s.flags.cy := hsame 8 (by decide)
  refine ⟨BitVec.eq_of_getLsbD_eq fun k hk => ?_, by rw [hflags, hcy]⟩
  have hbit := hsame k (by omega)
  rwa [ringBit, ringBit, if_neg (by omega), if_neg (by omega)] at hbit

/-- Settles O15: RAL and RAR turn the ring by one place, and nine turns are none. -/
theorem nineRotationsThroughCarryRestore : Obligations.NineRotationsThroughCarryRestore := by
  intro s i hi
  obtain ⟨d, hstep⟩ : ∃ d, ∀ s, ∃ t, exec i s = .next t ∧ Turned d s t := by
    obtain rfl | rfl := hi
    · exact ⟨8, exec_ral_turns⟩
    · exact ⟨1, exec_rar_turns⟩
  obtain ⟨t, ht, hturned⟩ := execTimes_turns hstep 9 s
  exact ⟨t, ht, eq_of_turned_nine hturned⟩

end Sys2Proof.Proofs
end
